-- ==== Sys2Proof/Word.lean ====
section
/-! DEFINITION. The words of HUY-CORE: 64-bit registers and draws, 32-bit command words, bytes
(spec/00_scope.md R8, R9). -/

namespace Sys2Proof

/-- A u64: a state word, an operand or result register, a draw (R8). -/
abbrev Word := BitVec 64

/-- A command word, bits 31:0 of a write to CMD (spec/30_encoding.md R70). -/
abbrev CmdWord := BitVec 32

/-- One byte of OUTBUF. -/
abbrev Byte := BitVec 8

end Sys2Proof
end

