-- ==== Sys2Proof/Syntax.lean ====
section
/-! DEFINITION. The commands of HUY-CORE: one constructor per row of spec/opcode_table.json
(spec/30_encoding.md R77). -/

namespace Sys2Proof

/-- A command. `ctx` is the CTX field (R75), `dst` the DST field of CLONE (R74), `lx` and `ux` the bits BK.LX and
BK.UX of RANGE.t (R73). The operands are not in the command: they come from ARG (R79). -/
inductive Instr where
  /-- SEED.U64 (R103). -/
  | seedU64 (ctx : Nat)
  /-- SEED.BYTES (R104). -/
  | seedBytes (ctx : Nat)
  /-- SEED.ENT (R107). -/
  | seedEnt (ctx : Nat)
  /-- CLONE (R108). -/
  | clone (ctx dst : Nat)
  /-- NEXT (R121). -/
  | next (ctx : Nat)
  /-- JUMP (R124). -/
  | jump (ctx : Nat)
  /-- LJUMP (R125). -/
  | ljump (ctx : Nat)
  /-- RAND.U8 (R143). -/
  | randU8 (ctx : Nat)
  /-- RAND.U16 (R143). -/
  | randU16 (ctx : Nat)
  /-- RAND.U32 (R143). -/
  | randU32 (ctx : Nat)
  /-- RAND.U64 (R143). -/
  | randU64 (ctx : Nat)
  /-- RAND.U128 (R144). -/
  | randU128 (ctx : Nat)
  /-- RAND.I8 (R143). -/
  | randI8 (ctx : Nat)
  /-- RAND.I16 (R143). -/
  | randI16 (ctx : Nat)
  /-- RAND.I32 (R143). -/
  | randI32 (ctx : Nat)
  /-- RAND.I64 (R143). -/
  | randI64 (ctx : Nat)
  /-- RAND.I128 (R144). -/
  | randI128 (ctx : Nat)
  /-- RAND.BOOL (R145). -/
  | randBool (ctx : Nat)
  /-- RAND.F32 (R147). -/
  | randF32 (ctx : Nat)
  /-- RAND.F64 (R146). -/
  | randF64 (ctx : Nat)
  /-- RANGE.U8 (R160). -/
  | rangeU8 (ctx : Nat) (lx ux : Bool)
  /-- RANGE.U16 (R160). -/
  | rangeU16 (ctx : Nat) (lx ux : Bool)
  /-- RANGE.U32 (R160). -/
  | rangeU32 (ctx : Nat) (lx ux : Bool)
  /-- RANGE.U64 (R160). -/
  | rangeU64 (ctx : Nat) (lx ux : Bool)
  /-- RANGE.I8 (R160). -/
  | rangeI8 (ctx : Nat) (lx ux : Bool)
  /-- RANGE.I16 (R160). -/
  | rangeI16 (ctx : Nat) (lx ux : Bool)
  /-- RANGE.I32 (R160). -/
  | rangeI32 (ctx : Nat) (lx ux : Bool)
  /-- RANGE.I64 (R160). -/
  | rangeI64 (ctx : Nat) (lx ux : Bool)
  /-- RANGE.F32 (R182). -/
  | rangeF32 (ctx : Nat)
  /-- RANGE.F64 (R182). -/
  | rangeF64 (ctx : Nat)
  /-- FILL (R140). -/
  | fill (ctx : Nat)
deriving DecidableEq, Repr

/-- The CTX field: the context a command acts on; for CLONE the source (R71, R75). -/
def Instr.ctx : Instr → Nat
  | .seedU64 c => c
  | .seedBytes c => c
  | .seedEnt c => c
  | .clone c _ => c
  | .next c => c
  | .jump c => c
  | .ljump c => c
  | .randU8 c => c
  | .randU16 c => c
  | .randU32 c => c
  | .randU64 c => c
  | .randU128 c => c
  | .randI8 c => c
  | .randI16 c => c
  | .randI32 c => c
  | .randI64 c => c
  | .randI128 c => c
  | .randBool c => c
  | .randF32 c => c
  | .randF64 c => c
  | .rangeU8 c _ _ => c
  | .rangeU16 c _ _ => c
  | .rangeU32 c _ _ => c
  | .rangeU64 c _ _ => c
  | .rangeI8 c _ _ => c
  | .rangeI16 c _ _ => c
  | .rangeI32 c _ _ => c
  | .rangeI64 c _ _ => c
  | .rangeF32 c => c
  | .rangeF64 c => c
  | .fill c => c

/-- The DST field, which only CLONE has (R74). -/
def Instr.dst? : Instr → Option Nat
  | .seedU64 _ => none
  | .seedBytes _ => none
  | .seedEnt _ => none
  | .clone _ d => some d
  | .next _ => none
  | .jump _ => none
  | .ljump _ => none
  | .randU8 _ => none
  | .randU16 _ => none
  | .randU32 _ => none
  | .randU64 _ => none
  | .randU128 _ => none
  | .randI8 _ => none
  | .randI16 _ => none
  | .randI32 _ => none
  | .randI64 _ => none
  | .randI128 _ => none
  | .randBool _ => none
  | .randF32 _ => none
  | .randF64 _ => none
  | .rangeU8 _ _ _ => none
  | .rangeU16 _ _ _ => none
  | .rangeU32 _ _ _ => none
  | .rangeU64 _ _ _ => none
  | .rangeI8 _ _ _ => none
  | .rangeI16 _ _ _ => none
  | .rangeI32 _ _ _ => none
  | .rangeI64 _ _ _ => none
  | .rangeF32 _ => none
  | .rangeF64 _ => none
  | .fill _ => none

end Sys2Proof
end

