-- ==== Sys2Proof/WellFormed.lean ====
section
/-! DEFINITION. Which terms of `Instr` a command word can hold: CTX and DST are 4-bit fields
(spec/30_encoding.md R71, R74, R75). A context number that NCTX rules out is still a well-formed command: issuing it
faults with BAD_CONTEXT. -/

namespace Sys2Proof

/-- CTX fits in bits 11:8 (R75). -/
abbrev Instr.CtxFits (i : Instr) : Prop := i.ctx < 16

/-- DST, where the command has it, fits in bits 23:20 (R74). -/
abbrev Instr.DstFits (i : Instr) : Prop := i.dst?.getD 0 < 16

/-- A well-formed command: every field fits. -/
abbrev WellFormed (i : Instr) : Prop := i.CtxFits ∧ i.DstFits

end Sys2Proof
end

