-- ==== Sys2Proof/Decode.lean ====
section
/-! DEFINITION. Decoding a command word (spec/30_encoding.md R71, R76, R77, R78, R84), total and rejecting by name,
and after it the encoder written from the same tables. -/

namespace Sys2Proof

/-! ### Fields of a command word (R71) -/

/-- OP, bits 7:0. -/
def opField (w : CmdWord) : BitVec 8 := w.extractLsb' 0 8

/-- CTX, bits 11:8. -/
def ctxField (w : CmdWord) : BitVec 4 := w.extractLsb' 8 4

/-- TY, bits 15:12. -/
def tyField (w : CmdWord) : BitVec 4 := w.extractLsb' 12 4

/-- BK, bits 17:16; bit 0 of the field is LX and bit 1 is UX. -/
def bkField (w : CmdWord) : BitVec 2 := w.extractLsb' 16 2

/-- The reserved bits 19:18. -/
def reservedLow (w : CmdWord) : BitVec 2 := w.extractLsb' 18 2

/-- DST, bits 23:20. -/
def dstField (w : CmdWord) : BitVec 4 := w.extractLsb' 20 4

/-- The reserved bits 31:24. -/
def reservedHigh (w : CmdWord) : BitVec 8 := w.extractLsb' 24 8

/-- Why a word selects no row (R78). All of them are ILLEGAL_COMMAND at issue. -/
inductive DecodeReject where
  /-- A bit of 31:24 or 19:18 is set. -/
  | reservedBits
  /-- OP is not listed in R76. -/
  | reservedOpcode
  /-- TY is not legal for OP. -/
  | illegalType
  /-- BK is not 00 outside RANGE.t. -/
  | boundKind
  /-- DST is not 0 outside CLONE. -/
  | destination
deriving DecidableEq, Repr

/-- The listed opcodes of R76 and R84. -/
def listedOps : List (BitVec 8) :=
  [0x01#8, 0x02#8, 0x03#8, 0x04#8, 0x08#8, 0x09#8, 0x0A#8, 0x10#8, 0x11#8, 0x12#8, 0x18#8, 0x19#8, 0x20#8]

/-- LegalTY of R84. -/
def legalTy (op : BitVec 8) : List (BitVec 4) :=
  if op = 0x10#8 then [0x0#4, 0x1#4, 0x2#4, 0x3#4, 0x4#4, 0x8#4, 0x9#4, 0xA#4, 0xB#4, 0xC#4]
  else if op = 0x18#8 then [0x0#4, 0x1#4, 0x2#4, 0x3#4, 0x8#4, 0x9#4, 0xA#4, 0xB#4]
  else if op = 0x12#8 ∨ op = 0x19#8 then [0x2#4, 0x3#4]
  else [0x0#4]

/-- The RAND.t row of a type code (R72, R77). -/
def randOfTy (ty : BitVec 4) (c : Nat) : Option Instr :=
  if ty = 0x0#4 then some (.randU8 c)
  else if ty = 0x1#4 then some (.randU16 c)
  else if ty = 0x2#4 then some (.randU32 c)
  else if ty = 0x3#4 then some (.randU64 c)
  else if ty = 0x4#4 then some (.randU128 c)
  else if ty = 0x8#4 then some (.randI8 c)
  else if ty = 0x9#4 then some (.randI16 c)
  else if ty = 0xA#4 then some (.randI32 c)
  else if ty = 0xB#4 then some (.randI64 c)
  else if ty = 0xC#4 then some (.randI128 c)
  else none

/-- The RANGE.t row of a type code (R72, R77). -/
def rangeOfTy (ty : BitVec 4) (c : Nat) (lx ux : Bool) : Option Instr :=
  if ty = 0x0#4 then some (.rangeU8 c lx ux)
  else if ty = 0x1#4 then some (.rangeU16 c lx ux)
  else if ty = 0x2#4 then some (.rangeU32 c lx ux)
  else if ty = 0x3#4 then some (.rangeU64 c lx ux)
  else if ty = 0x8#4 then some (.rangeI8 c lx ux)
  else if ty = 0x9#4 then some (.rangeI16 c lx ux)
  else if ty = 0xA#4 then some (.rangeI32 c lx ux)
  else if ty = 0xB#4 then some (.rangeI64 c lx ux)
  else none

/-- The row that OP and TY select (R77), with its free fields filled in. -/
def rowOf (op : BitVec 8) (ty : BitVec 4) (c d : Nat) (lx ux : Bool) : Option Instr :=
  if op = 0x01#8 then some (.seedU64 c)
  else if op = 0x02#8 then some (.seedBytes c)
  else if op = 0x03#8 then some (.seedEnt c)
  else if op = 0x04#8 then some (.clone c d)
  else if op = 0x08#8 then some (.next c)
  else if op = 0x09#8 then some (.jump c)
  else if op = 0x0A#8 then some (.ljump c)
  else if op = 0x11#8 then some (.randBool c)
  else if op = 0x20#8 then some (.fill c)
  else if op = 0x10#8 then randOfTy ty c
  else if op = 0x12#8 then (if ty = 0x2#4 then some (.randF32 c) else if ty = 0x3#4 then some (.randF64 c) else none)
  else if op = 0x18#8 then rangeOfTy ty c lx ux
  else if op = 0x19#8 then (if ty = 0x2#4 then some (.rangeF32 c) else if ty = 0x3#4 then some (.rangeF64 c) else none)
  else none

/-- The decoder of R84, on every 32-bit word. Context numbers are checked at issue, not here. -/
def decode (w : CmdWord) : Except DecodeReject Instr :=
  if reservedHigh w ≠ 0#8 ∨ reservedLow w ≠ 0#2 then .error .reservedBits
  else if opField w ∉ listedOps then .error .reservedOpcode
  else if tyField w ∉ legalTy (opField w) then .error .illegalType
  else if bkField w ≠ 0#2 ∧ opField w ≠ 0x18#8 then .error .boundKind
  else if dstField w ≠ 0#4 ∧ opField w ≠ 0x04#8 then .error .destination
  else
    match rowOf (opField w) (tyField w) (ctxField w).toNat (dstField w).toNat
        ((bkField w).getLsbD 0) ((bkField w).getLsbD 1) with
    | some i => .ok i
    | none => .error .reservedOpcode

/-- The instruction the decoder reads from the `nbits` low bits of `w` (bit 0 is the least significant bit of the
command word, and every bit at or above `nbits` is 0). A command is one 32-bit value on the bus (R70, R81), so
there is no byte order to undo. -/
def decodeTableWord (nbits w : Nat) : Option Instr :=
  (decode (BitVec.ofNat 32 (w % 2 ^ nbits))).toOption

/-! ### The encoder -/

/-- The OP value of a command (R76). -/
def Instr.op : Instr → BitVec 8
  | .seedU64 _ => 0x01#8
  | .seedBytes _ => 0x02#8
  | .seedEnt _ => 0x03#8
  | .clone _ _ => 0x04#8
  | .next _ => 0x08#8
  | .jump _ => 0x09#8
  | .ljump _ => 0x0A#8
  | .randU8 _ => 0x10#8
  | .randU16 _ => 0x10#8
  | .randU32 _ => 0x10#8
  | .randU64 _ => 0x10#8
  | .randU128 _ => 0x10#8
  | .randI8 _ => 0x10#8
  | .randI16 _ => 0x10#8
  | .randI32 _ => 0x10#8
  | .randI64 _ => 0x10#8
  | .randI128 _ => 0x10#8
  | .randBool _ => 0x11#8
  | .randF32 _ => 0x12#8
  | .randF64 _ => 0x12#8
  | .rangeU8 _ _ _ => 0x18#8
  | .rangeU16 _ _ _ => 0x18#8
  | .rangeU32 _ _ _ => 0x18#8
  | .rangeU64 _ _ _ => 0x18#8
  | .rangeI8 _ _ _ => 0x18#8
  | .rangeI16 _ _ _ => 0x18#8
  | .rangeI32 _ _ _ => 0x18#8
  | .rangeI64 _ _ _ => 0x18#8
  | .rangeF32 _ => 0x19#8
  | .rangeF64 _ => 0x19#8
  | .fill _ => 0x20#8

/-- The TY value of a command (R72, R76). -/
def Instr.ty : Instr → BitVec 4
  | .seedU64 _ => 0x0#4
  | .seedBytes _ => 0x0#4
  | .seedEnt _ => 0x0#4
  | .clone _ _ => 0x0#4
  | .next _ => 0x0#4
  | .jump _ => 0x0#4
  | .ljump _ => 0x0#4
  | .randU8 _ => 0x0#4
  | .randU16 _ => 0x1#4
  | .randU32 _ => 0x2#4
  | .randU64 _ => 0x3#4
  | .randU128 _ => 0x4#4
  | .randI8 _ => 0x8#4
  | .randI16 _ => 0x9#4
  | .randI32 _ => 0xA#4
  | .randI64 _ => 0xB#4
  | .randI128 _ => 0xC#4
  | .randBool _ => 0x0#4
  | .randF32 _ => 0x2#4
  | .randF64 _ => 0x3#4
  | .rangeU8 _ _ _ => 0x0#4
  | .rangeU16 _ _ _ => 0x1#4
  | .rangeU32 _ _ _ => 0x2#4
  | .rangeU64 _ _ _ => 0x3#4
  | .rangeI8 _ _ _ => 0x8#4
  | .rangeI16 _ _ _ => 0x9#4
  | .rangeI32 _ _ _ => 0xA#4
  | .rangeI64 _ _ _ => 0xB#4
  | .rangeF32 _ => 0x2#4
  | .rangeF64 _ => 0x3#4
  | .fill _ => 0x0#4

/-- BK.LX of a command; 0 outside RANGE.t (R73). -/
def Instr.lx : Instr → Bool
  | .seedU64 _ => false
  | .seedBytes _ => false
  | .seedEnt _ => false
  | .clone _ _ => false
  | .next _ => false
  | .jump _ => false
  | .ljump _ => false
  | .randU8 _ => false
  | .randU16 _ => false
  | .randU32 _ => false
  | .randU64 _ => false
  | .randU128 _ => false
  | .randI8 _ => false
  | .randI16 _ => false
  | .randI32 _ => false
  | .randI64 _ => false
  | .randI128 _ => false
  | .randBool _ => false
  | .randF32 _ => false
  | .randF64 _ => false
  | .rangeU8 _ l _ => l
  | .rangeU16 _ l _ => l
  | .rangeU32 _ l _ => l
  | .rangeU64 _ l _ => l
  | .rangeI8 _ l _ => l
  | .rangeI16 _ l _ => l
  | .rangeI32 _ l _ => l
  | .rangeI64 _ l _ => l
  | .rangeF32 _ => false
  | .rangeF64 _ => false
  | .fill _ => false

/-- BK.UX of a command; 0 outside RANGE.t (R73). -/
def Instr.ux : Instr → Bool
  | .seedU64 _ => false
  | .seedBytes _ => false
  | .seedEnt _ => false
  | .clone _ _ => false
  | .next _ => false
  | .jump _ => false
  | .ljump _ => false
  | .randU8 _ => false
  | .randU16 _ => false
  | .randU32 _ => false
  | .randU64 _ => false
  | .randU128 _ => false
  | .randI8 _ => false
  | .randI16 _ => false
  | .randI32 _ => false
  | .randI64 _ => false
  | .randI128 _ => false
  | .randBool _ => false
  | .randF32 _ => false
  | .randF64 _ => false
  | .rangeU8 _ _ u => u
  | .rangeU16 _ _ u => u
  | .rangeU32 _ _ u => u
  | .rangeU64 _ _ u => u
  | .rangeI8 _ _ u => u
  | .rangeI16 _ _ u => u
  | .rangeI32 _ _ u => u
  | .rangeI64 _ _ u => u
  | .rangeF32 _ => false
  | .rangeF64 _ => false
  | .fill _ => false

/-- The command word of a command, laid out as R71 draws it. -/
def encode (i : Instr) : CmdWord :=
  0#8 ++ BitVec.ofNat 4 (i.dst?.getD 0) ++ 0#2 ++ BitVec.ofBool i.ux ++ BitVec.ofBool i.lx ++ i.ty ++
    BitVec.ofNat 4 i.ctx ++ i.op

/-! ### The rows of the opcode map (R77) -/

/-- A row of R77: a word `w` selects it when `w & mask` is the row's match value. -/
structure OpcodeRow where
  mnemonic : String
  pattern : CmdWord
  mask : CmdWord
deriving DecidableEq, Repr

/-- A word selects a row (R77). -/
abbrev OpcodeRow.Selects (r : OpcodeRow) (w : CmdWord) : Prop := w &&& r.mask = r.pattern

/-- The row of R77 that a command is an instance of. -/
def Instr.row : Instr → OpcodeRow
  | .seedU64 _ => ⟨"SEED.U64", 0x00000001#32, 0xFFFFF0FF#32⟩
  | .seedBytes _ => ⟨"SEED.BYTES", 0x00000002#32, 0xFFFFF0FF#32⟩
  | .seedEnt _ => ⟨"SEED.ENT", 0x00000003#32, 0xFFFFF0FF#32⟩
  | .clone _ _ => ⟨"CLONE", 0x00000004#32, 0xFF0FF0FF#32⟩
  | .next _ => ⟨"NEXT", 0x00000008#32, 0xFFFFF0FF#32⟩
  | .jump _ => ⟨"JUMP", 0x00000009#32, 0xFFFFF0FF#32⟩
  | .ljump _ => ⟨"LJUMP", 0x0000000A#32, 0xFFFFF0FF#32⟩
  | .randU8 _ => ⟨"RAND.U8", 0x00000010#32, 0xFFFFF0FF#32⟩
  | .randU16 _ => ⟨"RAND.U16", 0x00001010#32, 0xFFFFF0FF#32⟩
  | .randU32 _ => ⟨"RAND.U32", 0x00002010#32, 0xFFFFF0FF#32⟩
  | .randU64 _ => ⟨"RAND.U64", 0x00003010#32, 0xFFFFF0FF#32⟩
  | .randU128 _ => ⟨"RAND.U128", 0x00004010#32, 0xFFFFF0FF#32⟩
  | .randI8 _ => ⟨"RAND.I8", 0x00008010#32, 0xFFFFF0FF#32⟩
  | .randI16 _ => ⟨"RAND.I16", 0x00009010#32, 0xFFFFF0FF#32⟩
  | .randI32 _ => ⟨"RAND.I32", 0x0000A010#32, 0xFFFFF0FF#32⟩
  | .randI64 _ => ⟨"RAND.I64", 0x0000B010#32, 0xFFFFF0FF#32⟩
  | .randI128 _ => ⟨"RAND.I128", 0x0000C010#32, 0xFFFFF0FF#32⟩
  | .randBool _ => ⟨"RAND.BOOL", 0x00000011#32, 0xFFFFF0FF#32⟩
  | .randF32 _ => ⟨"RAND.F32", 0x00002012#32, 0xFFFFF0FF#32⟩
  | .randF64 _ => ⟨"RAND.F64", 0x00003012#32, 0xFFFFF0FF#32⟩
  | .rangeU8 _ _ _ => ⟨"RANGE.U8", 0x00000018#32, 0xFFFCF0FF#32⟩
  | .rangeU16 _ _ _ => ⟨"RANGE.U16", 0x00001018#32, 0xFFFCF0FF#32⟩
  | .rangeU32 _ _ _ => ⟨"RANGE.U32", 0x00002018#32, 0xFFFCF0FF#32⟩
  | .rangeU64 _ _ _ => ⟨"RANGE.U64", 0x00003018#32, 0xFFFCF0FF#32⟩
  | .rangeI8 _ _ _ => ⟨"RANGE.I8", 0x00008018#32, 0xFFFCF0FF#32⟩
  | .rangeI16 _ _ _ => ⟨"RANGE.I16", 0x00009018#32, 0xFFFCF0FF#32⟩
  | .rangeI32 _ _ _ => ⟨"RANGE.I32", 0x0000A018#32, 0xFFFCF0FF#32⟩
  | .rangeI64 _ _ _ => ⟨"RANGE.I64", 0x0000B018#32, 0xFFFCF0FF#32⟩
  | .rangeF32 _ => ⟨"RANGE.F32", 0x00002019#32, 0xFFFFF0FF#32⟩
  | .rangeF64 _ => ⟨"RANGE.F64", 0x00003019#32, 0xFFFFF0FF#32⟩
  | .fill _ => ⟨"FILL", 0x00000020#32, 0xFFFFF0FF#32⟩

/-- The rows of R77 for seeding and the generator. -/
def seedingRows : List OpcodeRow :=
  [⟨"SEED.U64", 0x00000001#32, 0xFFFFF0FF#32⟩,
   ⟨"SEED.BYTES", 0x00000002#32, 0xFFFFF0FF#32⟩,
   ⟨"SEED.ENT", 0x00000003#32, 0xFFFFF0FF#32⟩,
   ⟨"CLONE", 0x00000004#32, 0xFF0FF0FF#32⟩,
   ⟨"NEXT", 0x00000008#32, 0xFFFFF0FF#32⟩,
   ⟨"JUMP", 0x00000009#32, 0xFFFFF0FF#32⟩,
   ⟨"LJUMP", 0x0000000A#32, 0xFFFFF0FF#32⟩]

/-- The rows of R77 for RAND. -/
def randRows : List OpcodeRow :=
  [⟨"RAND.U8", 0x00000010#32, 0xFFFFF0FF#32⟩,
   ⟨"RAND.U16", 0x00001010#32, 0xFFFFF0FF#32⟩,
   ⟨"RAND.U32", 0x00002010#32, 0xFFFFF0FF#32⟩,
   ⟨"RAND.U64", 0x00003010#32, 0xFFFFF0FF#32⟩,
   ⟨"RAND.U128", 0x00004010#32, 0xFFFFF0FF#32⟩,
   ⟨"RAND.I8", 0x00008010#32, 0xFFFFF0FF#32⟩,
   ⟨"RAND.I16", 0x00009010#32, 0xFFFFF0FF#32⟩,
   ⟨"RAND.I32", 0x0000A010#32, 0xFFFFF0FF#32⟩,
   ⟨"RAND.I64", 0x0000B010#32, 0xFFFFF0FF#32⟩,
   ⟨"RAND.I128", 0x0000C010#32, 0xFFFFF0FF#32⟩,
   ⟨"RAND.BOOL", 0x00000011#32, 0xFFFFF0FF#32⟩,
   ⟨"RAND.F32", 0x00002012#32, 0xFFFFF0FF#32⟩,
   ⟨"RAND.F64", 0x00003012#32, 0xFFFFF0FF#32⟩]

/-- The rows of R77 for RANGE and FILL. -/
def rangeRows : List OpcodeRow :=
  [⟨"RANGE.U8", 0x00000018#32, 0xFFFCF0FF#32⟩,
   ⟨"RANGE.U16", 0x00001018#32, 0xFFFCF0FF#32⟩,
   ⟨"RANGE.U32", 0x00002018#32, 0xFFFCF0FF#32⟩,
   ⟨"RANGE.U64", 0x00003018#32, 0xFFFCF0FF#32⟩,
   ⟨"RANGE.I8", 0x00008018#32, 0xFFFCF0FF#32⟩,
   ⟨"RANGE.I16", 0x00009018#32, 0xFFFCF0FF#32⟩,
   ⟨"RANGE.I32", 0x0000A018#32, 0xFFFCF0FF#32⟩,
   ⟨"RANGE.I64", 0x0000B018#32, 0xFFFCF0FF#32⟩,
   ⟨"RANGE.F32", 0x00002019#32, 0xFFFFF0FF#32⟩,
   ⟨"RANGE.F64", 0x00003019#32, 0xFFFFF0FF#32⟩,
   ⟨"FILL", 0x00000020#32, 0xFFFFF0FF#32⟩]

/-- The whole table of R77. -/
def opcodeRows : List OpcodeRow := seedingRows ++ randRows ++ rangeRows

end Sys2Proof
end

