-- ==== Sys2Proof/Config.lean ====
section
/-! DEFINITION. The implementation parameters of spec/00_scope.md R7, and the free values. -/

namespace Sys2Proof

/-- The parameters of R7. They are fixed for a machine; the model carries them in its state so that
every statement can be made for every value. PTR_BITS is the host's (Machine/HostAsm.lean). -/
structure Params where
  /-- NCTX, the number of generator contexts. -/
  nctx : Nat
  /-- OUTBUF_BYTES, the size of the FILL output buffer. -/
  outbufBytes : Nat
  /-- BASE, the bus address of window offset 0x000. -/
  base : Nat
  /-- QNAN32, the pattern delivered for a binary32 NaN. -/
  qnan32 : BitVec 32
  /-- QNAN64, the pattern delivered for a binary64 NaN. -/
  qnan64 : BitVec 64
deriving DecidableEq, Repr

/-- The reference configuration of R7. BASE is OPEN there: 0 is a DESIGN CHOICE (log entry 3, unsafe). -/
def Params.reference : Params :=
  { nctx := 4, outbufBytes := 256, base := 0, qnan32 := 0x7FC00000#32, qnan64 := 0x7FF8000000000000#64 }

/-- The legal values of R7: NCTX from 1 to 16, OUTBUF_BYTES a multiple of 8 from 8 to 2048, BASE aligned to
4096, and quiet-NaN patterns (exponent bits and the top fraction bit all 1). -/
def Params.legal (p : Params) : Bool :=
  decide (1 ≤ p.nctx ∧ p.nctx ≤ 16 ∧ p.outbufBytes % 8 = 0 ∧ 8 ≤ p.outbufBytes ∧ p.outbufBytes ≤ 2048 ∧
    p.base % 4096 = 0 ∧ p.qnan32 &&& 0x7FC00000#32 = 0x7FC00000#32 ∧
    p.qnan64 &&& 0x7FF8000000000000#64 = 0x7FF8000000000000#64)

/-- FREE VALUE (spec/10_state.md R35, spec/93_implementation_defined.md): what the n-th host read of an OUTBUF
byte that no FILL has written since reset returns. Nothing constrains it (log entry 2, safe). -/
opaque Config.freeByte : Nat → Byte

end Sys2Proof
end

