-- ==== Sys2Proof/Machine/State.lean ====
section
/-! DEFINITION. The architectural state of HUY-CORE (spec/10_state.md R20), the moves of the agents around it, and
the state after reset (spec/70_reset_and_hazards.md R230). -/

namespace Sys2Proof.Machine

/-- The four state words of a generator context (R21). -/
structure Words where
  s0 : Word
  s1 : Word
  s2 : Word
  s3 : Word
deriving DecidableEq, Repr

/-- Four zero words. -/
def Words.zero : Words := ⟨0#64, 0#64, 0#64, 0#64⟩

/-- A generator context: its four state words S[c] (R21) and its bit SEEDED[c] (R22). -/
structure GenCtx where
  words : Words
  seeded : Bool
deriving DecidableEq, Repr

/-- A context after reset: SEEDED 0. The words are "unspecified and unobservable" (R21); 0 is a DESIGN CHOICE
(log entry 1, unsafe). -/
def GenCtx.unseeded : GenCtx := ⟨Words.zero, false⟩

/-- ARG[0..3] (R24). -/
structure Args where
  a0 : Word
  a1 : Word
  a2 : Word
  a3 : Word
deriving DecidableEq, Repr

/-- ARG[0..3] after reset (R20). -/
def Args.zero : Args := ⟨0#64, 0#64, 0#64, 0#64⟩

/-- The fault codes of spec/60_exceptions.md R201. -/
inductive FaultCode where
  | none
  | illegalCommand
  | badContext
  | notSeeded
  | emptyRange
  | invalidInterval
  | fillTooLong
  | overrun
deriving DecidableEq, Repr

/-- The latch (R36): the accepted command and the copies of ARG taken at issue (70 R240). The command is kept
decoded, as R240 writes it; its word is `encode cmd`. -/
structure Latch where
  cmd : Instr
  args : Args
deriving DecidableEq, Repr

/-- OUTBUF (R35): the bytes that a FILL has written since reset, by their index in OUTBUF, indexes strictly rising.
A byte that is not listed holds no value. -/
abbrev Memory := List Host.Cell

/-- One move of an agent around the block (INVENTORY.md, Agents). -/
inductive Event where
  /-- A host read of `n` bytes at bus address `addr` (spec/20_memory.md R53). -/
  | read (addr n : Nat)
  /-- A host write of `n` bytes of value `v` at bus address `addr` (R53). -/
  | write (addr n : Nat) (v : Word)
  /-- A command at the command level (spec/00_scope.md R14): the word is issued and, if it is accepted, its completion
  step falls before any other move. -/
  | command (w : CmdWord)
  /-- The completion agent has its turn (R60, 70 R241). -/
  | complete
  /-- The entropy input delivers a word (spec/40_seeding.md R106). -/
  | entropy (v : Word)
  /-- The hardware reset input is asserted (70 R231). -/
  | hardReset
deriving DecidableEq, Repr

/-- What the last host access got back from the block. -/
inductive Response where
  /-- No access yet. -/
  | idle
  /-- A read returned this value. -/
  | data (v : Word)
  /-- A write was taken (an ignored one too). -/
  | ack
  /-- The platform's bus-error response (R54). -/
  | busError
deriving DecidableEq, Repr

/-- The machine. The first eleven fields are the spec's state (R20), `cfg` its parameters (spec/00_scope.md R7); the last
four are the model's own (INVENTORY.md, State). -/
structure State where
  contexts : List GenCtx
  args : Args
  res0 : Word
  res1 : Word
  lastDraws : Word
  busy : Bool
  done : Bool
  fault : Bool
  errcode : FaultCode
  outbuf : Memory
  latch : Option Latch
  cfg : Params
  entropy : List Word
  agenda : List Event
  response : Response
  freeCount : Nat
deriving DecidableEq, Repr

/-- Why the model stops a run. A block fault of spec/60_exceptions.md is none of these: it is a next state. -/
inductive Fault where
  /-- A host access whose bus address is not in the 4096-byte window (R50). Raised by `busRead` and `busWrite`; such an
  address does not exist for this block. Safe: no claim about the block follows from it. -/
  | outsideWindow
deriving DecidableEq, Repr

/-- Why the model has no meaning for an instruction. -/
inductive Refusal where
  /-- Raised by an arm of `exec` for an instruction without a meaning; no arm does. Safe. -/
  | notModelled (mnemonic : String)
deriving DecidableEq, Repr

/-- The block with parameters `p` after a reset, with nothing delivered or waiting at its ports (70 R230). -/
def State.resetWith (p : Params) : State :=
  { contexts := List.replicate p.nctx GenCtx.unseeded
    args := Args.zero
    res0 := 0#64
    res1 := 0#64
    lastDraws := 0#64
    busy := false
    done := false
    fault := false
    errcode := .none
    outbuf := []
    latch := none
    cfg := p
    entropy := []
    agenda := []
    response := .idle
    freeCount := 0 }

/-- The machine right after reset, in the reference configuration of spec/00_scope.md R7. -/
def State.reset : State := State.resetWith Params.reference

end Sys2Proof.Machine
end

