-- ==== Sys2Proof/Machine/Ops.lean ====
section
/-! DEFINITION. The named operations over words, OUTBUF, contexts and registers; raising a fault and leaving it by
reset; the acceptance and the end of a command. -/

namespace Sys2Proof.Machine

/-! ### Arithmetic on words (spec/00_scope.md R10) -/

/-- `rotl64(a, k)`, for 0 < k < 64. -/
def rotl64 (a : Word) (k : Nat) : Word := (a <<< k) ||| (a >>> (64 - k))

/-- `mulfull(a, b)`, the exact 128-bit product. -/
def mulfull (a b : Word) : BitVec 128 := a.setWidth 128 * b.setWidth 128

/-- Bits 127:64 of a product. -/
def hi64 (p : BitVec 128) : Word := p.extractLsb' 64 64

/-- Bits 63:0 of a product. -/
def lo64 (p : BitVec 128) : Word := p.extractLsb' 0 64

/-- Byte `j` of a word: bits 8j+7 to 8j (spec/20_memory.md R57). -/
def byteOf (x : Word) (j : Nat) : Byte := x.extractLsb' (8 * j) 8

/-- The little-endian reading of a list of bytes: byte j is bits 8j+7 to 8j (spec/20_memory.md R55). -/
def littleEndian : List Byte → Word
  | [] => 0#64
  | b :: rest => b.setWidth 64 ||| (littleEndian rest <<< 8)

/-! ### OUTBUF (spec/10_state.md R35, spec/20_memory.md R52) -/

/-- The value byte `k` holds, if a FILL has written it since reset. -/
def Memory.read : Memory → Nat → Option Byte
  | [], _ => none
  | (a, x) :: rest, k => if a = k then some x else Memory.read rest k

/-- `BufWrite(k, b)` (R52). -/
def Memory.write : Memory → Nat → Byte → Memory
  | [], k, b => [(k, b)]
  | (a, x) :: rest, k, b =>
    if k < a then (k, b) :: (a, x) :: rest
    else if k = a then (k, b) :: rest
    else (a, x) :: Memory.write rest k b

/-- The canonical form: indexes strictly rising. An unlisted byte holds no value, so no entry can equal what an unlisted
byte holds. -/
abbrev Memory.wf (m : Memory) : Prop := m.Pairwise (fun p q => p.1 < q.1)

/-- Every listed byte lies in OUTBUF[0..n-1]. -/
abbrev Memory.within (m : Memory) (n : Nat) : Prop := ∀ p ∈ m, p.1 < n

/-! ### Generator contexts (spec/10_state.md R21, R22) -/

/-- Context `c`. A number at or above NCTX names no context (R75); no accepted command has one. -/
def State.ctx (s : State) (c : Nat) : GenCtx := s.contexts.getD c GenCtx.unseeded

/-- S[c][0..3]. -/
def State.words (s : State) (c : Nat) : Words := (s.ctx c).words

/-- SEEDED[c]. -/
def State.seeded (s : State) (c : Nat) : Bool := (s.ctx c).seeded

/-- S[c][0..3] <- w; SEEDED[c] keeps its value. -/
def State.setWords (s : State) (c : Nat) (w : Words) : State :=
  { s with contexts := s.contexts.set c ⟨w, s.seeded c⟩ }

/-- S[c][0..3] <- w and SEEDED[c] <- 1: what every seeding path does (spec/40_seeding.md R103, R104, R107, R108). -/
def State.seedWith (s : State) (c : Nat) (w : Words) : State :=
  { s with contexts := s.contexts.set c ⟨w, true⟩ }

/-! ### Operand registers (spec/10_state.md R24) -/

/-- ARG[i] for i = 0 to 3. -/
def Args.get (a : Args) (i : Nat) : Word :=
  if i = 0 then a.a0 else if i = 1 then a.a1 else if i = 2 then a.a2 else a.a3

/-- ARG[i] <- v for i = 0 to 3. -/
def Args.set (a : Args) (i : Nat) (v : Word) : Args :=
  if i = 0 then { a with a0 := v } else if i = 1 then { a with a1 := v }
  else if i = 2 then { a with a2 := v } else { a with a3 := v }

/-! ### Faults and reset -/

/-- `raise Fault(code)` (spec/60_exceptions.md R202), the block's trap entry: FAULT, ERRCODE and DONE change and
nothing else does. -/
def raiseFault (code : FaultCode) (s : State) : State :=
  { s with fault := true, errcode := code, done := false }

/-- A reset, hard or soft (70_reset_and_hazards.md R230, R231): the only way out of the fault state (60 R206). The
parameters, the words at the entropy input, the waiting moves and the last response are not the block's state. -/
def resetBlock (s : State) : State :=
  { s with
    contexts := List.replicate s.cfg.nctx GenCtx.unseeded
    args := Args.zero
    res0 := 0#64
    res1 := 0#64
    lastDraws := 0#64
    busy := false
    done := false
    fault := false
    errcode := .none
    outbuf := []
    latch := none }

/-! ### Acceptance and end of a command -/

/-- The last lines of `issue` (70 R240): the latch takes the command and ARG, BUSY <- 1, DONE <- 0. -/
def accept (i : Instr) (s : State) : State :=
  { s with latch := some ⟨i, s.args⟩, busy := true, done := false }

/-- The end of a completion step: RES, LASTDRAWS (the draw count `d` modulo 2^64, spec/10_state.md R25, R26), and the
last lines of `complete` (70 R241): the latch is emptied, BUSY <- 0, DONE <- 1. -/
def finish (r0 r1 : Word) (d : Nat) (s : State) : State :=
  { s with
    res0 := r0, res1 := r1, lastDraws := BitVec.ofNat 64 d, latch := none, busy := false, done := true }

end Sys2Proof.Machine
end

