-- ==== Sys2Proof/Machine/Float.lean ====
section
/-! DEFINITION. The IEEE 754 formats and operations of spec/44_float_interval.md R180, in integer arithmetic, and the
unit floats of spec/42_output_stream.md R148.

A finite float is an integer multiple of the format's least subnormal, its UNIT. Sums are exact in units, a product is
exact in units over a power of two, and each operation rounds its exact result once. Bit patterns are natural numbers. -/

namespace Sys2Proof.Machine

/-- A binary interchange format: the widths of its fraction and exponent fields. -/
structure FloatFmt where
  fracBits : Nat
  expBits : Nat
deriving DecidableEq, Repr

/-- binary32: fraction 22:0, exponent 30:23 with bias 127, sign 31 (R180). -/
def binary32 : FloatFmt := ⟨23, 8⟩

/-- binary64: fraction 51:0, exponent 62:52 with bias 1023, sign 63 (R180). -/
def binary64 : FloatFmt := ⟨52, 11⟩

namespace FloatFmt

/-- The exponent bias, 127 or 1023. -/
def bias (f : FloatFmt) : Nat := 2 ^ (f.expBits - 1) - 1

/-- The weight of the sign bit. -/
def signWeight (f : FloatFmt) : Nat := 2 ^ (f.fracBits + f.expBits)

/-- The pattern of +inf. -/
def infBits (f : FloatFmt) : Nat := (2 ^ f.expBits - 1) * 2 ^ f.fracBits

/-- A NaN pattern. Only its being a NaN matters: a command delivers QNAN_T in its place (R181). -/
def nanBits (f : FloatFmt) : Nat := f.infBits + 2 ^ (f.fracBits - 1)

/-- The pattern without its sign bit. -/
def magnitude (f : FloatFmt) (b : Nat) : Nat := b % f.signWeight

/-- The sign bit. -/
def isNeg (f : FloatFmt) (b : Nat) : Bool := decide (b / f.signWeight % 2 = 1)

/-- A NaN: exponent all ones, fraction not zero. -/
def isNaN (f : FloatFmt) (b : Nat) : Bool := decide (f.infBits < f.magnitude b)

/-- An infinity. -/
def isInf (f : FloatFmt) (b : Nat) : Bool := decide (f.magnitude b = f.infBits)

/-- `isfinite_T` (R180): neither an infinity nor a NaN. -/
def isFinite (f : FloatFmt) (b : Nat) : Bool := decide (f.magnitude b < f.infBits)

/-- The pattern with sign `neg` and magnitude `m`. -/
def withSign (f : FloatFmt) (neg : Bool) (m : Nat) : Nat := if neg then f.signWeight + m else m

/-- The value of a finite magnitude pattern, in units. An exponent field 0 is a subnormal (kept, R180). -/
def units (f : FloatFmt) (m : Nat) : Nat :=
  if m / 2 ^ f.fracBits = 0 then m % 2 ^ f.fracBits
  else (2 ^ f.fracBits + m % 2 ^ f.fracBits) * 2 ^ (m / 2 ^ f.fracBits - 1)

/-- The value of a finite pattern, in units. -/
def signedUnits (f : FloatFmt) (b : Nat) : Int :=
  if f.isNeg b then -(f.units (f.magnitude b) : Int) else f.units (f.magnitude b)

/-- The magnitude pattern nearest to `num / 2^k` units, ties to even; overflow gives infinity (R180). `q` is the
exponent above the lowest binade, and `m` the significand before rounding up; a carry out of the significand runs into
the exponent field by itself. -/
def roundUnits (f : FloatFmt) (num k : Nat) : Nat :=
  if num = 0 then 0
  else
    let q := Nat.log2 num - (k + f.fracBits)
    let m := num / 2 ^ (k + q)
    let r := num % 2 ^ (k + q)
    let up := if 2 ^ (k + q) < 2 * r ∨ (2 ^ (k + q) = 2 * r ∧ m % 2 = 1) then 1 else 0
    min (q * 2 ^ f.fracBits + m + up) f.infBits

/-- The IEEE negation: the sign bit turned over. -/
def neg (f : FloatFmt) (b : Nat) : Nat := f.withSign (!f.isNeg b) (f.magnitude b)

/-- `fadd_T` (R180). An exact sum of zero is +0 unless both operands are negative. -/
def add (f : FloatFmt) (a b : Nat) : Nat :=
  if f.isNaN a || f.isNaN b then f.nanBits
  else if f.isInf a then
    if f.isInf b && (f.isNeg a != f.isNeg b) then f.nanBits else a
  else if f.isInf b then b
  else
    let sum := f.signedUnits a + f.signedUnits b
    if sum = 0 then f.withSign (f.isNeg a && f.isNeg b) 0
    else f.withSign (decide (sum < 0)) (f.roundUnits sum.natAbs 0)

/-- `fsub_T` (R180). -/
def sub (f : FloatFmt) (a b : Nat) : Nat := f.add a (f.neg b)

/-- `fmul_T` (R180). The exact product of x and y units is x*y / 2^(bias + fracBits - 1) units. -/
def mul (f : FloatFmt) (a b : Nat) : Nat :=
  let neg := f.isNeg a != f.isNeg b
  if f.isNaN a || f.isNaN b then f.nanBits
  else if f.isInf a || f.isInf b then
    if f.magnitude a = 0 ∨ f.magnitude b = 0 then f.nanBits else f.withSign neg f.infBits
  else
    f.withSign neg
      (f.roundUnits (f.units (f.magnitude a) * f.units (f.magnitude b)) (f.bias + f.fracBits - 1))

/-- The order of the values of two patterns that are not NaN: magnitude patterns rise with the values, infinity
included, and the two zeros agree. -/
def orderKey (f : FloatFmt) (b : Nat) : Int :=
  if f.isNeg b then -(f.magnitude b : Int) else f.magnitude b

/-- `flt_T` (R180): false if an operand is a NaN; -0 and +0 compare equal. -/
def lt (f : FloatFmt) (a b : Nat) : Bool :=
  !f.isNaN a && !f.isNaN b && decide (f.orderKey a < f.orderKey b)

/-- `UnitBits` of spec/42_output_stream.md R148: the pattern of m * 2^-fracBits, for m < 2^fracBits. -/
def unitBits (f : FloatFmt) (m : Nat) : Nat :=
  if m = 0 then 0
  else
    let k := Nat.log2 m
    (f.bias - f.fracBits + k) * 2 ^ f.fracBits + (m * 2 ^ (f.fracBits - k)) % 2 ^ f.fracBits

/-- The integer m of a draw: its top fracBits bits (42 R146, R147). -/
def unitMantissa (f : FloatFmt) (x : Word) : Nat := (x >>> (64 - f.fracBits)).toNat

/-- The unit float of a draw (42 R146, R147). -/
def unitOfDraw (f : FloatFmt) (x : Word) : Nat := f.unitBits (f.unitMantissa x)

end FloatFmt

end Sys2Proof.Machine
end

