-- ==== Sys2Proof/Machine/Operands.lean ====
section
/-! DEFINITION. Every operand and result form of the commands: element types, bounds and their normalisation, float
bounds, and the extension of results (spec/30_encoding.md R72, R79, R80; spec/43_range_int.md R161). -/

namespace Sys2Proof.Machine

/-! ### Integer element types of at most 64 bits (R72) -/

/-- The element types of RANGE.t, and of RAND.t with one draw. -/
inductive IntTy where
  | u8 | u16 | u32 | u64 | i8 | i16 | i32 | i64
deriving DecidableEq, Repr

namespace IntTy

/-- N, the element width. -/
def bits : IntTy → Nat
  | u8 => 8
  | u16 => 16
  | u32 => 32
  | u64 => 64
  | i8 => 8
  | i16 => 16
  | i32 => 32
  | i64 => 64

/-- S, the signedness. -/
def signed : IntTy → Bool
  | u8 => false
  | u16 => false
  | u32 => false
  | u64 => false
  | i8 => true
  | i16 => true
  | i32 => true
  | i64 => true

/-- MIN_t (spec/00_scope.md R11). -/
def minVal (t : IntTy) : Int := if t.signed then -(2 ^ (t.bits - 1)) else 0

/-- MAX_t (spec/00_scope.md R11). -/
def maxVal (t : IntTy) : Int := if t.signed then 2 ^ (t.bits - 1) - 1 else 2 ^ t.bits - 1

/-- The value of type t in bits N-1:0 of a register, uint_N or sint_N; the bits above are ignored (R79). -/
def ofReg (t : IntTy) (w : Word) : Int :=
  if t.signed then (w.setWidth t.bits).toInt else ((w.setWidth t.bits).toNat : Int)

/-- The register value of an N-bit pattern: sext_N for signed t, zext_N for unsigned t (R80). -/
def extend (t : IntTy) (v : BitVec t.bits) : Word :=
  if t.signed then v.signExtend 64 else v.setWidth 64

/-- The top N bits of a draw (spec/42_output_stream.md R143). -/
def topBits (t : IntTy) (x : Word) : BitVec t.bits := (x >>> (64 - t.bits)).setWidth t.bits

/-- RAND.t for t of at most 64 bits (R77). -/
def randInstr (t : IntTy) (c : Nat) : Instr :=
  match t with
  | u8 => .randU8 c
  | u16 => .randU16 c
  | u32 => .randU32 c
  | u64 => .randU64 c
  | i8 => .randI8 c
  | i16 => .randI16 c
  | i32 => .randI32 c
  | i64 => .randI64 c

/-- RANGE.t (R77). -/
def rangeInstr (t : IntTy) (c : Nat) (lx ux : Bool) : Instr :=
  match t with
  | u8 => .rangeU8 c lx ux
  | u16 => .rangeU16 c lx ux
  | u32 => .rangeU32 c lx ux
  | u64 => .rangeU64 c lx ux
  | i8 => .rangeI8 c lx ux
  | i16 => .rangeI16 c lx ux
  | i32 => .rangeI32 c lx ux
  | i64 => .rangeI64 c lx ux

end IntTy

/-- `Normalise` of R161: the inclusive bounds, or none for EMPTY. -/
def normalise (t : IntTy) (loIn upIn : Int) (lx ux : Bool) : Option (Int × Int) :=
  if lx ∧ loIn = t.maxVal then none
  else if ux ∧ upIn = t.minVal then none
  else
    let a := if lx then loIn + 1 else loIn
    let b := if ux then upIn - 1 else upIn
    if a > b then none else some (a, b)

/-- The normalised bounds of a RANGE.t command with operands `a` (R160, R161). -/
def rangeBounds (t : IntTy) (lx ux : Bool) (a : Args) : Option (Int × Int) :=
  normalise t (t.ofReg a.a0) (t.ofReg a.a1) lx ux

/-! ### Float bounds (R79) -/

/-- The pattern of a float operand: bits 31:0 or 63:0 of a register. -/
def FloatFmt.ofReg (f : FloatFmt) (w : Word) : Nat := w.toNat % 2 ^ (1 + f.expBits + f.fracBits)

/-- The interval check of RANGE.F (spec/44_float_interval.md R182, R183): both bounds finite and low < high. -/
def validInterval (f : FloatFmt) (a : Args) : Bool :=
  f.isFinite (f.ofReg a.a0) && f.isFinite (f.ofReg a.a1) && f.lt (f.ofReg a.a0) (f.ofReg a.a1)

/-! ### The operand check of each command (70 R240, 60 R203 item 6, R204) -/

/-- EMPTY_RANGE of RANGE.t (43 R162). -/
def emptyRangeCheck (t : IntTy) (lx ux : Bool) (a : Args) : Option FaultCode :=
  if rangeBounds t lx ux a = none then some .emptyRange else none

/-- INVALID_INTERVAL of RANGE.F (44 R183). -/
def intervalCheck (f : FloatFmt) (a : Args) : Option FaultCode :=
  if validInterval f a then none else some .invalidInterval

/-- FILL_TOO_LONG of FILL (42 R140): L = ARG[0] as a u64 byte count. -/
def fillCheck (p : Params) (a : Args) : Option FaultCode :=
  if p.outbufBytes < a.a0.toNat then some .fillTooLong else none

end Sys2Proof.Machine
end

