-- ==== Sys2Proof/Machine/Issue.lean ====
section
/-! DEFINITION. The issue step (spec/70_reset_and_hazards.md R240) and the command level (spec/00_scope.md R14). -/

namespace Sys2Proof.Machine

/-- `ReadsContext` of R240: the commands that need SEEDED[CTX] = 1. -/
def readsContext : Instr → Bool
  | .seedU64 _ => false
  | .seedBytes _ => false
  | .seedEnt _ => false
  | .clone _ _ => true
  | .next _ => true
  | .jump _ => true
  | .ljump _ => true
  | .randU8 _ => true
  | .randU16 _ => true
  | .randU32 _ => true
  | .randU64 _ => true
  | .randU128 _ => true
  | .randI8 _ => true
  | .randI16 _ => true
  | .randI32 _ => true
  | .randI64 _ => true
  | .randI128 _ => true
  | .randBool _ => true
  | .randF32 _ => true
  | .randF64 _ => true
  | .rangeU8 _ _ _ => true
  | .rangeU16 _ _ _ => true
  | .rangeU32 _ _ _ => true
  | .rangeU64 _ _ _ => true
  | .rangeI8 _ _ _ => true
  | .rangeI16 _ _ _ => true
  | .rangeI32 _ _ _ => true
  | .rangeI64 _ _ _ => true
  | .rangeF32 _ => true
  | .rangeF64 _ => true
  | .fill _ => true

/-- The one operand check an opcode has (R240; spec/60_exceptions.md R203 item 6, R204), on the operands `a`. -/
def operandFault (p : Params) (a : Args) : Instr → Option FaultCode
  | .seedU64 _ => none
  | .seedBytes _ => none
  | .seedEnt _ => none
  | .clone _ _ => none
  | .next _ => none
  | .jump _ => none
  | .ljump _ => none
  | .randU8 _ => none
  | .randU16 _ => none
  | .randU32 _ => none
  | .randU64 _ => none
  | .randU128 _ => none
  | .randI8 _ => none
  | .randI16 _ => none
  | .randI32 _ => none
  | .randI64 _ => none
  | .randI128 _ => none
  | .randBool _ => none
  | .randF32 _ => none
  | .randF64 _ => none
  | .rangeU8 _ lx ux => emptyRangeCheck .u8 lx ux a
  | .rangeU16 _ lx ux => emptyRangeCheck .u16 lx ux a
  | .rangeU32 _ lx ux => emptyRangeCheck .u32 lx ux a
  | .rangeU64 _ lx ux => emptyRangeCheck .u64 lx ux a
  | .rangeI8 _ lx ux => emptyRangeCheck .i8 lx ux a
  | .rangeI16 _ lx ux => emptyRangeCheck .i16 lx ux a
  | .rangeI32 _ lx ux => emptyRangeCheck .i32 lx ux a
  | .rangeI64 _ lx ux => emptyRangeCheck .i64 lx ux a
  | .rangeF32 _ => intervalCheck binary32 a
  | .rangeF64 _ => intervalCheck binary64 a
  | .fill _ => fillCheck p a

/-- CTX or, for CLONE, DST is at or above NCTX (R240, R74, R75). -/
def badContext (p : Params) (i : Instr) : Bool :=
  decide (p.nctx ≤ i.ctx) || (i.dst?.any fun d => decide (p.nctx ≤ d))

/-- The checks on a legal command, in the order of R203: items 4, 5 and 6. -/
def checkFault (i : Instr) (s : State) : Option FaultCode :=
  if badContext s.cfg i then some .badContext
  else if readsContext i && !s.seeded i.ctx then some .notSeeded
  else operandFault s.cfg s.args i

/-- The fault a CMD write raises, if any, when FAULT = 0: items 2 to 6 of R203. `cmd` is what the decoder gave, none
for an illegal word. -/
def issueFault (cmd : Option Instr) (s : State) : Option FaultCode :=
  if s.busy then some .overrun
  else
    match cmd with
    | none => some .illegalCommand
    | some i => checkFault i s

/-- `issue` of R240. While FAULT = 1 the write is ignored (R205). -/
def issue (cmd : Option Instr) (s : State) : State :=
  if s.fault then s
  else
    match issueFault cmd s, cmd with
    | some code, _ => raiseFault code s
    | none, some i => accept i s
    | none, none => s

/-- The issue step accepts the command. -/
def accepts (i : Instr) (s : State) : Bool := !s.fault && (issueFault (some i) s).isNone

/-- The completion step (R241) of the command in flight, by the completion function `f` of that command, on the latched
operands. Where `f` has no result the command has no completion step now (R248), and nothing changes. -/
def completeBy (f : Args → State → Option State) (s : State) : State :=
  match s.latch with
  | none => s
  | some l => (f l.args s).getD s

/-- A command at the command level (R14): its issue step and, if it is accepted, its completion step right after. A command
that hangs (R248) is left in flight. -/
def runCommand (i : Instr) (f : Args → State → Option State) (s : State) : State :=
  if accepts i s then completeBy f (accept i s) else issue (some i) s

end Sys2Proof.Machine
end

