-- ==== Sys2Proof/Machine/Generator.lean ====
section
/-! DEFINITION. The core generator and its commands (spec/41_generator.md): Draw, NEXT, JUMP, LJUMP. -/

namespace Sys2Proof.Machine

/-- The output of a draw, computed before the state advances (R120). -/
def drawOutput (g : Words) : Word := rotl64 (g.s0 + g.s3) 23 + g.s0

/-- The state update of a draw, each assignment in the order of R120. -/
def drawNext (g : Words) : Words :=
  let t := g.s1 <<< 17
  let s2 := g.s2 ^^^ g.s0
  let s3 := g.s3 ^^^ g.s1
  let s1 := g.s1 ^^^ s2
  let s0 := g.s0 ^^^ s3
  let s2 := s2 ^^^ t
  let s3 := rotl64 s3 45
  ⟨s0, s1, s2, s3⟩

/-- `Draw` (R120), on the words of a context: the output and the words left. -/
def draw (g : Words) : Word × Words := (drawOutput g, drawNext g)

/-- The completion step of a command that makes one draw x on context c and delivers `f x` in RES[0]. -/
def completeDraw (c : Nat) (f : Word → Word) (s : State) : State :=
  finish (f (draw (s.words c)).1) 0#64 1 (s.setWords c (draw (s.words c)).2)

/-- The completion step of NEXT (R121): RES[0] is the draw. -/
def completeNext (c : Nat) (_a : Args) (s : State) : Option State :=
  some (completeDraw c id s)

/-- NEXT as a command (R121): its issue step and its completion step. -/
def execNext (c : Nat) (s : State) : Host.Outcome State Fault Refusal :=
  .next (runCommand (.next c) (completeNext c) s)

/-- Word by word exclusive or, the accumulation of R123. -/
def Words.xor (a b : Words) : Words := ⟨a.s0 ^^^ b.s0, a.s1 ^^^ b.s1, a.s2 ^^^ b.s2, a.s3 ^^^ b.s3⟩

/-- Word w of a polynomial, w = 0 to 3. -/
def Words.get (j : Words) (w : Nat) : Word :=
  if w = 0 then j.s0 else if w = 1 then j.s1 else if w = 2 then j.s2 else j.s3

/-- Bit b of word w of a jump polynomial, for the position 64*w + b (R123: low to high, word after word). -/
def jumpBit (j : Words) (n : Nat) : Bool := (j.get (n / 64)).getLsbD (n % 64)

/-- One position of R123: accumulate the current state if the bit is set, then draw and discard the output. -/
def jumpStep (j : Words) (p : Words × Words) (n : Nat) : Words × Words :=
  (if jumpBit j n then p.1.xor p.2 else p.1, (draw p.2).2)

/-- `JumpWith` (R123) on the words of a context: the accumulator after all 256 positions. -/
def jumpWith (j : Words) (g : Words) : Words :=
  ((List.range 256).foldl (jumpStep j) (Words.zero, g)).1

/-- JUMP_POLY (R122; the spec marks the values as general knowledge, checked against its definition). -/
def jumpPoly : Words :=
  ⟨0x180EC6D33CFD0ABA#64, 0xD5A61266F0C9392C#64, 0xA9582618E03FC9AA#64, 0x39ABDC4529B1661C#64⟩

/-- LONG_JUMP_POLY (R122; the spec marks the values as general knowledge, checked against its definition). -/
def longJumpPoly : Words :=
  ⟨0x76E15D3EFEFDCBBF#64, 0xC5004E441C522FB3#64, 0x77710069854EE241#64, 0x39109BB02ACBE635#64⟩

/-- The completion step of a jump: the state is replaced, there is no result, and D = 256 (R123). -/
def completeJumpWith (j : Words) (c : Nat) (s : State) : State :=
  finish 0#64 0#64 256 (s.setWords c (jumpWith j (s.words c)))

/-- The completion step of JUMP (R124). -/
def completeJump (c : Nat) (_a : Args) (s : State) : Option State :=
  some (completeJumpWith jumpPoly c s)

/-- JUMP as a command (R124): its issue step and its completion step. -/
def execJump (c : Nat) (s : State) : Host.Outcome State Fault Refusal :=
  .next (runCommand (.jump c) (completeJump c) s)

/-- The completion step of LJUMP (R125). -/
def completeLjump (c : Nat) (_a : Args) (s : State) : Option State :=
  some (completeJumpWith longJumpPoly c s)

/-- LJUMP as a command (R125): its issue step and its completion step. -/
def execLjump (c : Nat) (s : State) : Host.Outcome State Fault Refusal :=
  .next (runCommand (.ljump c) (completeLjump c) s)

end Sys2Proof.Machine
end

