-- ==== Sys2Proof/Machine/RangeFloat.lean ====
section
/-! DEFINITION. The float interval scaler (spec/44_float_interval.md): RANGE.F32, RANGE.F64. -/

namespace Sys2Proof.Machine

/-- low + scale * u of R182: scale = fsub(high, low), then two roundings. -/
def scaleFloat (f : FloatFmt) (low high : Nat) (x : Word) : Nat :=
  f.add low (f.mul (f.sub high low) (f.unitOfDraw x))

/-- RES[0] of RANGE.F (R181, R182): QNAN_T for a NaN, else the pattern. -/
def deliverFloat (f : FloatFmt) (qnan : Word) (r : Nat) : Word := if f.isNaN r then qnan else BitVec.ofNat 64 r

/-- The completion step of RANGE.F (R182), in format `f`. -/
def completeRangeFloat (f : FloatFmt) (qnan : Word) (c : Nat) (a : Args) (s : State) : State :=
  completeDraw c (fun x => deliverFloat f qnan (scaleFloat f (f.ofReg a.a0) (f.ofReg a.a1) x)) s

/-- The completion step of RANGE.F32 (R182). -/
def completeRangeF32 (c : Nat) (a : Args) (s : State) : Option State :=
  some (completeRangeFloat binary32 (s.cfg.qnan32.setWidth 64) c a s)

/-- RANGE.F32 as a command (R182): its issue step and its completion step. -/
def execRangeF32 (c : Nat) (s : State) : Host.Outcome State Fault Refusal :=
  .next (runCommand (.rangeF32 c) (completeRangeF32 c) s)

/-- The completion step of RANGE.F64 (R182). -/
def completeRangeF64 (c : Nat) (a : Args) (s : State) : Option State :=
  some (completeRangeFloat binary64 s.cfg.qnan64 c a s)

/-- RANGE.F64 as a command (R182): its issue step and its completion step. -/
def execRangeF64 (c : Nat) (s : State) : Host.Outcome State Fault Refusal :=
  .next (runCommand (.rangeF64 c) (completeRangeF64 c) s)

end Sys2Proof.Machine
end

