-- ==== Sys2Proof/Machine/RangeInt.lean ====
section
/-! DEFINITION. The debiased integer range sampler (spec/43_range_int.md): RANGE.t. -/

namespace Sys2Proof.Machine

/-- The rejection threshold t = (2^64 - range) mod range of R165. -/
def threshold (range : Word) : Word := (-range) % range

/-- The loop of R165 on the draw `x`, with the words `g` after it and `d` draws made so far: redraw while lo < t. The
answer is hi, the words and the draw count. It stops without one when `fuel` draws have been rejected. -/
def lemireLoop {σ : Type} (next : σ → Word × σ) (range t : Word) : Nat → Word → σ → Nat → Option (Word × σ × Nat)
  | 0, _, _, _ => none
  | fuel + 1, x, g, d =>
    if lo64 (mulfull x range) < t then lemireLoop next range t fuel (next g).1 (next g).2 (d + 1)
    else some (hi64 (mulfull x range), g, d)

/-- `Lemire` (R165) over a source of draws. A first draw with lo ≥ range is taken without the threshold. -/
def lemire {σ : Type} (next : σ → Word × σ) (fuel : Nat) (range : Word) (g : σ) : Option (Word × σ × Nat) :=
  let x := (next g).1
  if lo64 (mulfull x range) < range then lemireLoop next range (threshold range) fuel x (next g).2 1
  else some (hi64 (mulfull x range), (next g).2, 1)

/-- The fuel of the rejection loop. A context has 2^256 states and each draw is a function of the state, so a loop that
has rejected 2^256 draws has come round and rejects for ever: running out of fuel is the loop that never ends, and
the command then has no completion step (R168, 70 R248; DEDUCED, log entry 7). -/
def loopFuel : Nat := 2 ^ 256

/-- The completion step of RANGE.t (R160): the raw path for the full range (R163), Lemire's method otherwise (R164, R165),
and v = (a + h) mod 2^N (R166). -/
def completeRange (t : IntTy) (c : Nat) (lx ux : Bool) (a : Args) (s : State) : Option State :=
  match rangeBounds t lx ux a with
  | none => none
  | some (lo, up) =>
    if lo = t.minVal ∧ up = t.maxVal then
      some (completeDraw c (fun x => t.extend (t.topBits x)) s)
    else
      match lemire draw loopFuel (BitVec.ofInt 64 (up - lo + 1)) (s.words c) with
      | none => none
      | some (h, g, d) =>
        some (finish (t.extend (BitVec.ofInt t.bits (lo + h.toNat))) 0#64 d (s.setWords c g))

/-- The completion step of RANGE.U8 (R160). -/
def completeRangeU8 (c : Nat) (lx ux : Bool) (a : Args) (s : State) : Option State :=
  completeRange .u8 c lx ux a s

/-- RANGE.U8 as a command (R160): its issue step and its completion step. -/
def execRangeU8 (c : Nat) (lx ux : Bool) (s : State) : Host.Outcome State Fault Refusal :=
  .next (runCommand (.rangeU8 c lx ux) (completeRangeU8 c lx ux) s)

/-- The completion step of RANGE.U16 (R160). -/
def completeRangeU16 (c : Nat) (lx ux : Bool) (a : Args) (s : State) : Option State :=
  completeRange .u16 c lx ux a s

/-- RANGE.U16 as a command (R160): its issue step and its completion step. -/
def execRangeU16 (c : Nat) (lx ux : Bool) (s : State) : Host.Outcome State Fault Refusal :=
  .next (runCommand (.rangeU16 c lx ux) (completeRangeU16 c lx ux) s)

/-- The completion step of RANGE.U32 (R160). -/
def completeRangeU32 (c : Nat) (lx ux : Bool) (a : Args) (s : State) : Option State :=
  completeRange .u32 c lx ux a s

/-- RANGE.U32 as a command (R160): its issue step and its completion step. -/
def execRangeU32 (c : Nat) (lx ux : Bool) (s : State) : Host.Outcome State Fault Refusal :=
  .next (runCommand (.rangeU32 c lx ux) (completeRangeU32 c lx ux) s)

/-- The completion step of RANGE.U64 (R160). -/
def completeRangeU64 (c : Nat) (lx ux : Bool) (a : Args) (s : State) : Option State :=
  completeRange .u64 c lx ux a s

/-- RANGE.U64 as a command (R160): its issue step and its completion step. -/
def execRangeU64 (c : Nat) (lx ux : Bool) (s : State) : Host.Outcome State Fault Refusal :=
  .next (runCommand (.rangeU64 c lx ux) (completeRangeU64 c lx ux) s)

/-- The completion step of RANGE.I8 (R160). -/
def completeRangeI8 (c : Nat) (lx ux : Bool) (a : Args) (s : State) : Option State :=
  completeRange .i8 c lx ux a s

/-- RANGE.I8 as a command (R160): its issue step and its completion step. -/
def execRangeI8 (c : Nat) (lx ux : Bool) (s : State) : Host.Outcome State Fault Refusal :=
  .next (runCommand (.rangeI8 c lx ux) (completeRangeI8 c lx ux) s)

/-- The completion step of RANGE.I16 (R160). -/
def completeRangeI16 (c : Nat) (lx ux : Bool) (a : Args) (s : State) : Option State :=
  completeRange .i16 c lx ux a s

/-- RANGE.I16 as a command (R160): its issue step and its completion step. -/
def execRangeI16 (c : Nat) (lx ux : Bool) (s : State) : Host.Outcome State Fault Refusal :=
  .next (runCommand (.rangeI16 c lx ux) (completeRangeI16 c lx ux) s)

/-- The completion step of RANGE.I32 (R160). -/
def completeRangeI32 (c : Nat) (lx ux : Bool) (a : Args) (s : State) : Option State :=
  completeRange .i32 c lx ux a s

/-- RANGE.I32 as a command (R160): its issue step and its completion step. -/
def execRangeI32 (c : Nat) (lx ux : Bool) (s : State) : Host.Outcome State Fault Refusal :=
  .next (runCommand (.rangeI32 c lx ux) (completeRangeI32 c lx ux) s)

/-- The completion step of RANGE.I64 (R160). -/
def completeRangeI64 (c : Nat) (lx ux : Bool) (a : Args) (s : State) : Option State :=
  completeRange .i64 c lx ux a s

/-- RANGE.I64 as a command (R160): its issue step and its completion step. -/
def execRangeI64 (c : Nat) (lx ux : Bool) (s : State) : Host.Outcome State Fault Refusal :=
  .next (runCommand (.rangeI64 c lx ux) (completeRangeI64 c lx ux) s)

end Sys2Proof.Machine
end

