-- ==== Sys2Proof/Machine/Seeding.lean ====
section
/-! DEFINITION. The seed mixer and the commands that write a whole context (spec/40_seeding.md): SEED.U64,
SEED.BYTES, SEED.ENT, CLONE. -/

namespace Sys2Proof.Machine

/-- GAMMA (R100; the spec marks the mixer's constants as general knowledge). -/
def gamma : Word := 0x9E3779B97F4A7C15#64

/-- MUL1 (R100). -/
def mul1 : Word := 0xBF58476D1CE4E5B9#64

/-- MUL2 (R100). -/
def mul2 : Word := 0x94D049BB133111EB#64

/-- The xor-shift `z ^ (z >> k)` of the mixer (R101). -/
def xorShift (z : Word) (k : Nat) : Word := z ^^^ (z >>> k)

/-- `Mix` (R101), with SH1 = 30, SH2 = 27, SH3 = 31 (R100). -/
def mix (z : Word) : Word := xorShift (xorShift (xorShift z 30 * mul1) 27 * mul2) 31

/-- The mixer's stream: n times, add GAMMA to z and mix (R102, R110). -/
def mixStream : Nat → Word → List Word
  | 0, _ => []
  | n + 1, z => mix (z + gamma) :: mixStream n (z + gamma)

/-- `Expand` (R102): the first four values of the mixer's stream. -/
def expand (seed : Word) : Words :=
  let z1 := seed + gamma
  let z2 := z1 + gamma
  let z3 := z2 + gamma
  let z4 := z3 + gamma
  ⟨mix z1, mix z2, mix z3, mix z4⟩

/-- The completion step of a command that leaves the words `w` in context c, seeded, and has no result. -/
def completeSeed (c : Nat) (w : Words) (s : State) : State := finish 0#64 0#64 0 (s.seedWith c w)

/-- The completion step of SEED.U64 (R103): seed = ARG[0]. -/
def completeSeedU64 (c : Nat) (a : Args) (s : State) : Option State :=
  some (completeSeed c (expand a.a0) s)

/-- SEED.U64 as a command (R103): its issue step and its completion step. -/
def execSeedU64 (c : Nat) (s : State) : Host.Outcome State Fault Refusal :=
  .next (runCommand (.seedU64 c) (completeSeedU64 c) s)

/-- The words a byte seed gives (R104): the four operands unchanged, but Expand(0) when all are zero. -/
def bytesSeed (a : Args) : Words :=
  if a.a0 = 0#64 ∧ a.a1 = 0#64 ∧ a.a2 = 0#64 ∧ a.a3 = 0#64 then expand 0#64 else ⟨a.a0, a.a1, a.a2, a.a3⟩

/-- The completion step of SEED.BYTES (R104): the words are ARG[0..3]. -/
def completeSeedBytes (c : Nat) (a : Args) (s : State) : Option State :=
  some (completeSeed c (bytesSeed a) s)

/-- SEED.BYTES as a command (R104): its issue step and its completion step. -/
def execSeedBytes (c : Nat) (s : State) : Host.Outcome State Fault Refusal :=
  .next (runCommand (.seedBytes c) (completeSeedBytes c) s)

/-- The retry loop of R107: zero words are discarded, the first non-zero word is the seed, and the words after it stay at
the entropy input. None if no non-zero word has been delivered. -/
def takeEntropy : List Word → Option (Word × List Word)
  | [] => none
  | v :: rest => if v = 0#64 then takeEntropy rest else some (v, rest)

/-- The completion step of SEED.ENT (R107). While the entropy input has
delivered no non-zero word there is no completion step (R248). -/
def completeSeedEnt (c : Nat) (_a : Args) (s : State) : Option State :=
  match takeEntropy s.entropy with
  | none => none
  | some (v, rest) => some (completeSeed c (expand v) { s with entropy := rest })

/-- SEED.ENT as a command (R107): its issue step and its completion step. -/
def execSeedEnt (c : Nat) (s : State) : Host.Outcome State Fault Refusal :=
  .next (runCommand (.seedEnt c) (completeSeedEnt c) s)

/-- The completion step of CLONE (R108): context c is copied into context d. -/
def completeClone (c d : Nat) (_a : Args) (s : State) : Option State :=
  some (completeSeed d (s.words c) s)

/-- CLONE as a command (R108): its issue step and its completion step. -/
def execClone (c d : Nat) (s : State) : Host.Outcome State Fault Refusal :=
  .next (runCommand (.clone c d) (completeClone c d) s)

end Sys2Proof.Machine
end

