-- ==== Sys2Proof/Machine/Stream.lean ====
section
/-! DEFINITION. The output stream (spec/42_output_stream.md): RAND.t, RAND.BOOL, RAND.F32, RAND.F64, FILL. -/

namespace Sys2Proof.Machine

/-- The completion step of RAND.t for t of at most 64 bits (R143). -/
def completeRand (t : IntTy) (c : Nat) (s : State) : State := completeDraw c (fun x => t.extend (t.topBits x)) s

/-- The completion step of RAND.U128 and RAND.I128 (R144): two draws, the low word first. -/
def completeRandWide (c : Nat) (s : State) : State :=
  let first := draw (s.words c)
  let second := draw first.2
  finish first.1 second.1 2 (s.setWords c second.2)

/-- The completion step of RAND.U8 (R143). -/
def completeRandU8 (c : Nat) (_a : Args) (s : State) : Option State :=
  some (completeRand .u8 c s)

/-- RAND.U8 as a command (R143): its issue step and its completion step. -/
def execRandU8 (c : Nat) (s : State) : Host.Outcome State Fault Refusal :=
  .next (runCommand (.randU8 c) (completeRandU8 c) s)

/-- The completion step of RAND.U16 (R143). -/
def completeRandU16 (c : Nat) (_a : Args) (s : State) : Option State :=
  some (completeRand .u16 c s)

/-- RAND.U16 as a command (R143): its issue step and its completion step. -/
def execRandU16 (c : Nat) (s : State) : Host.Outcome State Fault Refusal :=
  .next (runCommand (.randU16 c) (completeRandU16 c) s)

/-- The completion step of RAND.U32 (R143). -/
def completeRandU32 (c : Nat) (_a : Args) (s : State) : Option State :=
  some (completeRand .u32 c s)

/-- RAND.U32 as a command (R143): its issue step and its completion step. -/
def execRandU32 (c : Nat) (s : State) : Host.Outcome State Fault Refusal :=
  .next (runCommand (.randU32 c) (completeRandU32 c) s)

/-- The completion step of RAND.U64 (R143). -/
def completeRandU64 (c : Nat) (_a : Args) (s : State) : Option State :=
  some (completeRand .u64 c s)

/-- RAND.U64 as a command (R143): its issue step and its completion step. -/
def execRandU64 (c : Nat) (s : State) : Host.Outcome State Fault Refusal :=
  .next (runCommand (.randU64 c) (completeRandU64 c) s)

/-- The completion step of RAND.U128 (R144). -/
def completeRandU128 (c : Nat) (_a : Args) (s : State) : Option State :=
  some (completeRandWide c s)

/-- RAND.U128 as a command (R144): its issue step and its completion step. -/
def execRandU128 (c : Nat) (s : State) : Host.Outcome State Fault Refusal :=
  .next (runCommand (.randU128 c) (completeRandU128 c) s)

/-- The completion step of RAND.I8 (R143). -/
def completeRandI8 (c : Nat) (_a : Args) (s : State) : Option State :=
  some (completeRand .i8 c s)

/-- RAND.I8 as a command (R143): its issue step and its completion step. -/
def execRandI8 (c : Nat) (s : State) : Host.Outcome State Fault Refusal :=
  .next (runCommand (.randI8 c) (completeRandI8 c) s)

/-- The completion step of RAND.I16 (R143). -/
def completeRandI16 (c : Nat) (_a : Args) (s : State) : Option State :=
  some (completeRand .i16 c s)

/-- RAND.I16 as a command (R143): its issue step and its completion step. -/
def execRandI16 (c : Nat) (s : State) : Host.Outcome State Fault Refusal :=
  .next (runCommand (.randI16 c) (completeRandI16 c) s)

/-- The completion step of RAND.I32 (R143). -/
def completeRandI32 (c : Nat) (_a : Args) (s : State) : Option State :=
  some (completeRand .i32 c s)

/-- RAND.I32 as a command (R143): its issue step and its completion step. -/
def execRandI32 (c : Nat) (s : State) : Host.Outcome State Fault Refusal :=
  .next (runCommand (.randI32 c) (completeRandI32 c) s)

/-- The completion step of RAND.I64 (R143). -/
def completeRandI64 (c : Nat) (_a : Args) (s : State) : Option State :=
  some (completeRand .i64 c s)

/-- RAND.I64 as a command (R143): its issue step and its completion step. -/
def execRandI64 (c : Nat) (s : State) : Host.Outcome State Fault Refusal :=
  .next (runCommand (.randI64 c) (completeRandI64 c) s)

/-- The completion step of RAND.I128 (R144). -/
def completeRandI128 (c : Nat) (_a : Args) (s : State) : Option State :=
  some (completeRandWide c s)

/-- RAND.I128 as a command (R144): its issue step and its completion step. -/
def execRandI128 (c : Nat) (s : State) : Host.Outcome State Fault Refusal :=
  .next (runCommand (.randI128 c) (completeRandI128 c) s)

/-- The boolean of a draw (R145): it is positive as a signed 64-bit number. -/
def boolOfDraw (x : Word) : Word := if 0 < x.toInt then 1#64 else 0#64

/-- The completion step of RAND.BOOL (R145). -/
def completeRandBool (c : Nat) (_a : Args) (s : State) : Option State :=
  some (completeDraw c boolOfDraw s)

/-- RAND.BOOL as a command (R145): its issue step and its completion step. -/
def execRandBool (c : Nat) (s : State) : Host.Outcome State Fault Refusal :=
  .next (runCommand (.randBool c) (completeRandBool c) s)

/-- RES[0] of RAND.F (R146, R147): the pattern of the unit float, zero-extended. -/
def unitResult (f : FloatFmt) (x : Word) : Word := BitVec.ofNat 64 (f.unitOfDraw x)

/-- The completion step of RAND.F32 (R147). -/
def completeRandF32 (c : Nat) (_a : Args) (s : State) : Option State :=
  some (completeDraw c (unitResult binary32) s)

/-- RAND.F32 as a command (R147): its issue step and its completion step. -/
def execRandF32 (c : Nat) (s : State) : Host.Outcome State Fault Refusal :=
  .next (runCommand (.randF32 c) (completeRandF32 c) s)

/-- The completion step of RAND.F64 (R146). -/
def completeRandF64 (c : Nat) (_a : Args) (s : State) : Option State :=
  some (completeDraw c (unitResult binary64) s)

/-- RAND.F64 as a command (R146): its issue step and its completion step. -/
def execRandF64 (c : Nat) (s : State) : Host.Outcome State Fault Refusal :=
  .next (runCommand (.randF64 c) (completeRandF64 c) s)

/-- The inner loop of R140: byte j of draw x goes to byte 8k+j, for the j with 8k+j < len. -/
def fillChunk (len k : Nat) (x : Word) (m : Memory) : Memory :=
  (List.range 8).foldl (fun m j => if 8 * k + j < len then m.write (8 * k + j) (byteOf x j) else m) m

/-- The outer loop of R140: n more draws, the first of them draw k of the command. -/
def fillLoop (len : Nat) : Nat → Nat → Words → Memory → Words × Memory
  | 0, _, g, m => (g, m)
  | n + 1, k, g, m => fillLoop len n (k + 1) (draw g).2 (fillChunk len k (draw g).1 m)

/-- ceil(L / 8) (R140, R141). -/
def fillDraws (len : Nat) : Nat := (len + 7) / 8

/-- The completion step of FILL (R140): L = ARG[0]. Bytes L and above keep their values (DEDUCED, log entry 14). -/
def completeFill (c : Nat) (a : Args) (s : State) : Option State :=
  let len := a.a0.toNat
  let r := fillLoop len (fillDraws len) 0 (s.words c) s.outbuf
  some (finish 0#64 0#64 (fillDraws len) { s.setWords c r.1 with outbuf := r.2 })

/-- FILL as a command (R140): its issue step and its completion step. -/
def execFill (c : Nat) (s : State) : Host.Outcome State Fault Refusal :=
  .next (runCommand (.fill c) (completeFill c) s)

end Sys2Proof.Machine
end

