-- ==== Sys2Proof/Machine/Complete.lean ====
section
/-! DEFINITION. The completion step of whichever command is in flight (spec/70_reset_and_hazards.md R241). -/

namespace Sys2Proof.Machine

/-- The pseudocode of a command's rule, on the latched operands; none while the command has no completion step. -/
def completionOf : Instr → Args → State → Option State
  | .seedU64 c => completeSeedU64 c
  | .seedBytes c => completeSeedBytes c
  | .seedEnt c => completeSeedEnt c
  | .clone c d => completeClone c d
  | .next c => completeNext c
  | .jump c => completeJump c
  | .ljump c => completeLjump c
  | .randU8 c => completeRandU8 c
  | .randU16 c => completeRandU16 c
  | .randU32 c => completeRandU32 c
  | .randU64 c => completeRandU64 c
  | .randU128 c => completeRandU128 c
  | .randI8 c => completeRandI8 c
  | .randI16 c => completeRandI16 c
  | .randI32 c => completeRandI32 c
  | .randI64 c => completeRandI64 c
  | .randI128 c => completeRandI128 c
  | .randBool c => completeRandBool c
  | .randF32 c => completeRandF32 c
  | .randF64 c => completeRandF64 c
  | .rangeU8 c lx ux => completeRangeU8 c lx ux
  | .rangeU16 c lx ux => completeRangeU16 c lx ux
  | .rangeU32 c lx ux => completeRangeU32 c lx ux
  | .rangeU64 c lx ux => completeRangeU64 c lx ux
  | .rangeI8 c lx ux => completeRangeI8 c lx ux
  | .rangeI16 c lx ux => completeRangeI16 c lx ux
  | .rangeI32 c lx ux => completeRangeI32 c lx ux
  | .rangeI64 c lx ux => completeRangeI64 c lx ux
  | .rangeF32 c => completeRangeF32 c
  | .rangeF64 c => completeRangeF64 c
  | .fill c => completeFill c

/-- The completion agent's turn: the command in flight completes, if it has a completion step; with no command in flight
nothing happens (R241, R247, R248). -/
def completionTurn (s : State) : State :=
  match s.latch with
  | none => s
  | some l => completeBy (completionOf l.cmd) s

end Sys2Proof.Machine
end

