-- ==== Sys2Proof/Machine/Flags.lean ====
section
/-! DEFINITION. The status and identification words a host reads (spec/10_state.md R27, R30). The block has no condition
codes (R38); STATUS holds its only flag bits. -/

namespace Sys2Proof.Machine

/-- The code of a fault (spec/60_exceptions.md R201). -/
def FaultCode.code : FaultCode → BitVec 8
  | .none => 0x00#8
  | .illegalCommand => 0x01#8
  | .badContext => 0x02#8
  | .notSeeded => 0x03#8
  | .emptyRange => 0x04#8
  | .invalidInterval => 0x05#8
  | .fillTooLong => 0x06#8
  | .overrun => 0x07#8

/-- The SEEDED bits as a number: context c has weight 2^c. -/
def seededNat : List GenCtx → Nat
  | [] => 0
  | g :: rest => g.seeded.toNat + 2 * seededNat rest

/-- STATUS (R30). Bits of contexts at or above NCTX and reserved bits read 0. -/
def statusWord (s : State) : Word :=
  0#16 ++ BitVec.ofNat 16 (seededNat s.contexts) ++ 0#16 ++ s.errcode.code ++ 0#5 ++ BitVec.ofBool s.fault ++
    BitVec.ofBool s.done ++ BitVec.ofBool s.busy

/-- ID (R27): MAGIC, IFVER 1, BUFSZ and NCTX. -/
def idWord (p : Params) : Word :=
  0x48555943#32 ++ 0x01#8 ++ BitVec.ofNat 16 p.outbufBytes ++ BitVec.ofNat 8 p.nctx

end Sys2Proof.Machine
end

