-- ==== Sys2Proof/Machine/Bus.lean ====
section
/-! DEFINITION. The register window (spec/20_memory.md): MemRead, MemWrite and the bus around them. -/

namespace Sys2Proof.Machine

/-- The window offset of a bus address, if the address lies in the window (R50). -/
def windowOffset (p : Params) (addr : Nat) : Option Nat :=
  if p.base ≤ addr ∧ addr < p.base + 4096 then some (addr - p.base) else none

/-- The accesses that get no bus error (R53, R54): a width of 1, 2, 4 or 8, natural alignment, and 8 bytes below 0x058. -/
def admitted (off n : Nat) : Bool :=
  decide ((n = 1 ∨ n = 2 ∨ n = 4 ∨ n = 8) ∧ off % n = 0 ∧ (off < 0x058 → n = 8))

/-- The register at an offset below 0x058 (R51). CTRL and CMD read 0 (spec/10_state.md R28, R34). -/
def registerRead (off : Nat) (s : State) : Word :=
  if off = 0x000 then idWord s.cfg
  else if off = 0x010 then statusWord s
  else if off = 0x020 then s.args.a0
  else if off = 0x028 then s.args.a1
  else if off = 0x030 then s.args.a2
  else if off = 0x038 then s.args.a3
  else if off = 0x040 then s.res0
  else if off = 0x048 then s.res1
  else if off = 0x050 then s.lastDraws
  else 0#64

/-- What a host read of OUTBUF byte k returns: the byte a FILL wrote, else a free byte, `draw` being its place in the
sequence of free bytes (spec/10_state.md R35). -/
def outbufByte (s : State) (k draw : Nat) : Byte := (s.outbuf.read k).getD (Config.freeByte draw)

/-- n bytes of OUTBUF from byte k on, little-endian (R53, R55). -/
def outbufRead (s : State) (k n : Nat) : Word :=
  littleEndian ((List.range n).map fun j => outbufByte s (k + j) (s.freeCount + j))

/-- The host gets a response; nothing of the block changes. -/
def respond (r : Response) (s : State) : State := { s with response := r }

/-- `MemRead(off, n)` (R53). A read changes nothing of the block (R59); a read of OUTBUF uses up n places of the sequence
of free bytes, so that each read of a byte without a value is a fresh one. -/
def memRead (off n : Nat) (s : State) : State :=
  if !admitted off n then respond .busError s
  else if off < 0x058 then respond (.data (registerRead off s)) s
  else if 0x800 ≤ off ∧ off < 0x800 + s.cfg.outbufBytes then
    { respond (.data (outbufRead s (off - 0x800) n)) s with freeCount := s.freeCount + n }
  else respond (.data 0#64) s

/-- What a CMD write presents to the issue step: bits 31:0, decoded (70 R240, spec/10_state.md R34). -/
def issueWord (w : CmdWord) (s : State) : State := issue (decode w).toOption s

/-- The effect of an admitted write (R53, R59). -/
def writeEffect (off : Nat) (v : Word) (s : State) : State :=
  if off = 0x008 then (if v.getLsbD 0 then resetBlock s else s)
  else if off = 0x018 then issueWord (v.setWidth 32) s
  else if 0x020 ≤ off ∧ off < 0x040 then { s with args := s.args.set ((off - 0x020) / 8) v }
  else s

/-- `MemWrite(off, n, v)` (R53). A bus error changes nothing of the block (R54). -/
def memWrite (off n : Nat) (v : Word) (s : State) : State :=
  if !admitted off n then respond .busError s else respond .ack (writeEffect off v s)

/-- A host read at a bus address. -/
def busRead (addr n : Nat) (s : State) : Host.Outcome State Fault Refusal :=
  match windowOffset s.cfg addr with
  | none => .fault .outsideWindow
  | some off => .next (memRead off n s)

/-- A host write at a bus address. -/
def busWrite (addr n : Nat) (v : Word) (s : State) : Host.Outcome State Fault Refusal :=
  match windowOffset s.cfg addr with
  | none => .fault .outsideWindow
  | some off => .next (memWrite off n v s)

/-- The entropy input delivers a word (spec/40_seeding.md R106): it waits behind the words already there. -/
def deliverEntropy (v : Word) (s : State) : State := { s with entropy := s.entropy ++ [v] }

/-- The command word of the `nbits` low bits of `w`. -/
def fetchWord (nbits w : Nat) : CmdWord := BitVec.ofNat 32 (w % 2 ^ nbits)

/-- The state with a command word as the very next move (spec/10_state.md R29: the instruction stream is the host's). -/
def placeCommand (w : CmdWord) (s : State) : State := { s with agenda := .command w :: s.agenda }

end Sys2Proof.Machine
end

