-- ==== Sys2Proof/Machine/Dispatch.lean ====
section
/-! DEFINITION. One arm per command. -/

namespace Sys2Proof.Machine

def exec (i : Instr) (s : State) : Host.Outcome State Fault Refusal :=
  match i with
  | .seedU64 c => Sys2Proof.Machine.execSeedU64 c s
  | .seedBytes c => Sys2Proof.Machine.execSeedBytes c s
  | .seedEnt c => Sys2Proof.Machine.execSeedEnt c s
  | .clone c d => Sys2Proof.Machine.execClone c d s
  | .next c => Sys2Proof.Machine.execNext c s
  | .jump c => Sys2Proof.Machine.execJump c s
  | .ljump c => Sys2Proof.Machine.execLjump c s
  | .randU8 c => Sys2Proof.Machine.execRandU8 c s
  | .randU16 c => Sys2Proof.Machine.execRandU16 c s
  | .randU32 c => Sys2Proof.Machine.execRandU32 c s
  | .randU64 c => Sys2Proof.Machine.execRandU64 c s
  | .randU128 c => Sys2Proof.Machine.execRandU128 c s
  | .randI8 c => Sys2Proof.Machine.execRandI8 c s
  | .randI16 c => Sys2Proof.Machine.execRandI16 c s
  | .randI32 c => Sys2Proof.Machine.execRandI32 c s
  | .randI64 c => Sys2Proof.Machine.execRandI64 c s
  | .randI128 c => Sys2Proof.Machine.execRandI128 c s
  | .randBool c => Sys2Proof.Machine.execRandBool c s
  | .randF32 c => Sys2Proof.Machine.execRandF32 c s
  | .randF64 c => Sys2Proof.Machine.execRandF64 c s
  | .rangeU8 c lx ux => Sys2Proof.Machine.execRangeU8 c lx ux s
  | .rangeU16 c lx ux => Sys2Proof.Machine.execRangeU16 c lx ux s
  | .rangeU32 c lx ux => Sys2Proof.Machine.execRangeU32 c lx ux s
  | .rangeU64 c lx ux => Sys2Proof.Machine.execRangeU64 c lx ux s
  | .rangeI8 c lx ux => Sys2Proof.Machine.execRangeI8 c lx ux s
  | .rangeI16 c lx ux => Sys2Proof.Machine.execRangeI16 c lx ux s
  | .rangeI32 c lx ux => Sys2Proof.Machine.execRangeI32 c lx ux s
  | .rangeI64 c lx ux => Sys2Proof.Machine.execRangeI64 c lx ux s
  | .rangeF32 c => Sys2Proof.Machine.execRangeF32 c s
  | .rangeF64 c => Sys2Proof.Machine.execRangeF64 c s
  | .fill c => Sys2Proof.Machine.execFill c s

end Sys2Proof.Machine
end

