-- ==== Sys2Proof/Machine/Step.lean ====
section
/-! DEFINITION. One step: the next move of the agents, in the block's order (spec/20_memory.md R60). -/

namespace Sys2Proof.Machine

/-- A command word at the command level (spec/00_scope.md R14): the command it decodes to, or the issue step of an illegal
word. -/
def commandWord (w : CmdWord) (s : State) : Host.Outcome State Fault Refusal :=
  match decode w with
  | .ok i => exec i s
  | .error _ => .next (issue none s)

/-- One move. -/
def move : Event → State → Host.Outcome State Fault Refusal
  | .read addr n, s => busRead addr n s
  | .write addr n v, s => busWrite addr n v s
  | .command w, s => commandWord w s
  | .complete, s => .next (completionTurn s)
  | .entropy v, s => .next (deliverEntropy v s)
  | .hardReset, s => .next (resetBlock s)

/-- The next step: the first waiting move; with none waiting, the completion agent's turn (70 R247). -/
def step (s : State) : Host.Outcome State Fault Refusal :=
  match s.agenda with
  | [] => .next (completionTurn s)
  | e :: rest => move e { s with agenda := rest }

/-- `s` with a command word as its next move; see log entry 8. -/
def State.withFetchWord (s : State) (nbits w : Nat) : State := placeCommand (fetchWord nbits w) s

end Sys2Proof.Machine
end

