-- ==== Sys2Proof/Safety.lean ====
section
/-! DEFINITION. What holds of a block in a sane state, and what counts as a safe run, in the terms the statements use. -/

namespace Sys2Proof.Machine

/-- The command in flight passed the checks of its issue step, and still would on its latched operands (70_reset_and_hazards.md
R240). -/
def Latch.Checked (l : Latch) (s : State) : Prop :=
  badContext s.cfg l.cmd = false ∧ (readsContext l.cmd = true → s.seeded l.cmd.ctx = true) ∧
    operandFault s.cfg l.args l.cmd = none

/-- The well-formed states of the block. -/
structure State.Inv (s : State) : Prop where
  /-- The parameters are legal (spec/00_scope.md R7). -/
  paramsLegal : s.cfg.legal = true
  /-- There are NCTX contexts (spec/10_state.md R21). -/
  contextCount : s.contexts.length = s.cfg.nctx
  /-- BUSY = 1 exactly while the latch is full (R36). -/
  busyLatch : s.busy = s.latch.isSome
  /-- DONE and BUSY are never both 1 (R31, R32). -/
  doneIdle : s.done = true → s.busy = false
  /-- ERRCODE is NONE exactly while FAULT = 0 (spec/60_exceptions.md R201). -/
  faultCode : s.fault = decide (s.errcode ≠ .none)
  /-- OUTBUF is in its canonical form. -/
  outbufForm : s.outbuf.wf
  /-- OUTBUF holds OUTBUF_BYTES bytes at most (spec/10_state.md R35). -/
  outbufSize : s.outbuf.within s.cfg.outbufBytes
  /-- The command in flight is one the issue step accepted. -/
  latchChecked : ∀ l, s.latch = some l → l.Checked s

/-- "While SEEDED[c] = 1, the four words of context c are never all zero" (spec/10_state.md R23). -/
abbrev State.SeededNonZero (s : State) : Prop := ∀ g ∈ s.contexts, g.seeded = true → g.words ≠ Words.zero

/-- No usage error since reset (spec/10_state.md R33): the notion of a safe run of a host program. -/
abbrev State.NoFault (s : State) : Prop := s.fault = false

/-- No command in flight. -/
abbrev State.Idle (s : State) : Prop := s.busy = false ∧ s.latch = none

/-- The next command that passes its own checks is accepted: no fault latched and no command in flight. -/
abbrev State.Ready (s : State) : Prop := s.fault = false ∧ s.busy = false

/-- Context `c` exists and is seeded (spec/10_state.md R22, spec/30_encoding.md R75). -/
abbrev State.CanDraw (s : State) (c : Nat) : Prop := c < s.cfg.nctx ∧ s.seeded c = true

/-- The draw source after k draws (spec/41_generator.md R120). -/
def wordsAfter (k : Nat) (g : Words) : Words := drawNext^[k] g

/-- The k-th draw from the words `g`, k = 0 for the first (R120). -/
def nthDraw (g : Words) (k : Nat) : Word := drawOutput (wordsAfter k g)

/-- How far the value of a finite pattern `p` lies from the exact value `x / 2^k` units, in units over 2^k. -/
def FloatFmt.error (f : FloatFmt) (x : Int) (k p : Nat) : Nat := (f.signedUnits p * 2 ^ k - x).natAbs

/-- The pattern `r` is the exact value `x / 2^k` units rounded once, to nearest with ties to even (spec/44_float_interval.md
R180). -/
structure FloatFmt.IsRounding (f : FloatFmt) (x : Int) (k r : Nat) : Prop where
  /-- It is a pattern of the format. -/
  pattern : r < 2 * f.signWeight
  /-- It is no NaN. -/
  notNaN : f.isNaN r = false
  /-- It has the sign of the exact value. -/
  sign : x ≠ 0 → f.isNeg r = decide (x < 0)
  /-- It is an infinity exactly from the midpoint above the greatest finite value on. -/
  overflow : f.isInf r = true ↔ (f.units (f.infBits - 1) + f.units f.infBits) * 2 ^ k ≤ 2 * x.natAbs
  /-- No finite value is nearer, subnormals included. -/
  nearest : f.isFinite r = true → ∀ p, f.isFinite p = true → f.error x k r ≤ f.error x k p
  /-- Where another value is equally near, it is the even one. -/
  tiesToEven : f.isFinite r = true → ∀ p, f.isFinite p = true → f.error x k p = f.error x k r →
    f.signedUnits p ≠ f.signedUnits r → r % 2 = 0

/-- Two states that differ at most in the words of contexts with SEEDED = 0, which "have no defined value" (spec/10_state.md
R21). -/
def SameButUnseeded (s t : State) : Prop :=
  t = { s with contexts := t.contexts } ∧ s.contexts.length = t.contexts.length ∧
    ∀ c, s.seeded c = t.seeded c ∧ (s.seeded c = true → s.words c = t.words c)

/-- What a completed command leaves (70_reset_and_hazards.md R241): context `c` holds the words `w` and is seeded, RES and LASTDRAWS
are written, the latch is empty, BUSY = 0, DONE = 1, and everything else is as in `s`. -/
def State.completed (s : State) (c : Nat) (w : Words) (r0 r1 : Word) (d : Nat) : State :=
  { s with
    contexts := s.contexts.set c ⟨w, true⟩
    res0 := r0
    res1 := r1
    lastDraws := BitVec.ofNat 64 d
    latch := none
    busy := false
    done := true }

/-- What a faulting issue attempt leaves (spec/60_exceptions.md R202). -/
def State.faulted (s : State) (code : FaultCode) : State := { s with fault := true, errcode := code, done := false }

/-- What an accepted command leaves until it completes (70_reset_and_hazards.md R240). -/
def State.inFlight (s : State) (i : Instr) : State :=
  { s with latch := some ⟨i, s.args⟩, busy := true, done := false }

/-- The moves that reset the block (70_reset_and_hazards.md R231): the hardware reset, and a write of 8 bytes with bit 0 set to
CTRL. -/
def Event.Resets (p : Params) (e : Event) : Prop :=
  e = .hardReset ∨ ∃ v : Word, v.getLsbD 0 = true ∧ e = .write (p.base + 0x008) 8 v

/-- The same command on another context; CLONE keeps its destination. -/
def withContext (c : Nat) : Instr → Instr
  | .seedU64 _ => .seedU64 c
  | .seedBytes _ => .seedBytes c
  | .seedEnt _ => .seedEnt c
  | .clone _ d => .clone c d
  | .next _ => .next c
  | .jump _ => .jump c
  | .ljump _ => .ljump c
  | .randU8 _ => .randU8 c
  | .randU16 _ => .randU16 c
  | .randU32 _ => .randU32 c
  | .randU64 _ => .randU64 c
  | .randU128 _ => .randU128 c
  | .randI8 _ => .randI8 c
  | .randI16 _ => .randI16 c
  | .randI32 _ => .randI32 c
  | .randI64 _ => .randI64 c
  | .randI128 _ => .randI128 c
  | .randBool _ => .randBool c
  | .randF32 _ => .randF32 c
  | .randF64 _ => .randF64 c
  | .rangeU8 _ lx ux => .rangeU8 c lx ux
  | .rangeU16 _ lx ux => .rangeU16 c lx ux
  | .rangeU32 _ lx ux => .rangeU32 c lx ux
  | .rangeU64 _ lx ux => .rangeU64 c lx ux
  | .rangeI8 _ lx ux => .rangeI8 c lx ux
  | .rangeI16 _ lx ux => .rangeI16 c lx ux
  | .rangeI32 _ lx ux => .rangeI32 c lx ux
  | .rangeI64 _ lx ux => .rangeI64 c lx ux
  | .rangeF32 _ => .rangeF32 c
  | .rangeF64 _ => .rangeF64 c
  | .fill _ => .fill c

end Sys2Proof.Machine
end

