-- ==== Sys2Proof/Certificates/Slice0/Obligations.lean ====
section
/-! DEFINITION. The statements about HUY-CORE. "R<n>" is a numbered rule of spec/. A statement whose conclusion names the
whole next state (`State.completed`, `State.faulted`, `State.inFlight` with named changes) states its frame too: every
register, context, byte of OUTBUF and model field not named there is as before. -/

open Sys2Proof Sys2Proof.Machine

/-! ### Encoding -/

/-- Every bit of a command is kept by its word: decoding the word of a well-formed command gives the command back (R71, R77,
R84). -/
def Obligations.DecodeEncodeIsIdentity : Prop := ∀ i : Instr, WellFormed i → decode (encode i) = .ok i

/-- A word has one meaning: what decodes to a command is that command's word (R77, R81). -/
def Obligations.EncodeDecodeIsIdentity : Prop :=
  ∀ (w : CmdWord) (i : Instr), decode w = .ok i → WellFormed i ∧ encode i = w

/-- R78: every word is an instance of one of the 31 rows, or selects none, is illegal, and faults when issued. No word
selects two rows (R77). -/
def Obligations.EveryWordSelectsOneRowOrIsIllegal : Prop :=
  opcodeRows.length = 31 ∧
  (∀ r ∈ opcodeRows, ∀ q ∈ opcodeRows, ∀ w : CmdWord, r.Selects w → q.Selects w → r = q) ∧
  ∀ w : CmdWord,
    (∃ i, decode w = .ok i ∧ i.row ∈ opcodeRows ∧ i.row.Selects w) ∨
    ((∃ e, decode w = .error e) ∧ (∀ r ∈ opcodeRows, ¬ r.Selects w) ∧
      ∀ s : State, s.Ready → issueWord w s = s.faulted .illegalCommand ∧
        commandWord w s = .next (s.faulted .illegalCommand))

/-- The decoder reads each field from the bits R71 gives it. -/
def Obligations.DecoderReadsTheFields : Prop :=
  ∀ (w : CmdWord) (i : Instr), decode w = .ok i →
    i.op = w.extractLsb' 0 8 ∧ i.ctx = (w.extractLsb' 8 4).toNat ∧ i.ty = w.extractLsb' 12 4 ∧
      i.lx = w.getLsbD 16 ∧ i.ux = w.getLsbD 17 ∧ i.dst?.getD 0 = (w.extractLsb' 20 4).toNat ∧
      (i.dst?.isSome = true ↔ i.op = 0x04#8) ∧ w.extractLsb' 18 2 = 0#2 ∧ w.extractLsb' 24 8 = 0#8

/-- Words of spec/95_test_vectors.md, one of each family, decode to the commands their programs name. -/
def Obligations.ProgramWordsDecode : Prop :=
  decode 0x00000203#32 = .ok (.seedEnt 2) ∧ decode 0x00100004#32 = .ok (.clone 0 1) ∧
    decode 0x00000109#32 = .ok (.jump 1) ∧ decode 0x00004010#32 = .ok (.randU128 0) ∧
    decode 0x00020018#32 = .ok (.rangeU8 0 false true) ∧ decode 0x0000A018#32 = .ok (.rangeI32 0 false false) ∧
    decode 0x00003019#32 = .ok (.rangeF64 0) ∧ decode 0x00000020#32 = .ok (.fill 0)

/-! ### Steps -/

/-- A step whose next move is a command word runs the command it decodes to, and only that; `withFetchWord` makes it the
next move. The other moves are taken one at a time in their order, and the completion agent moves when no other does.
The model's choice: the list of moves and the completion turn when it is empty (log entry 5, for what R60 and R247 leave
open), the command move and `withFetchWord` (log entry 8), and the list of entropy words (log entry 4). -/
def Obligations.StepRunsTheDecodedCommand : Prop :=
  (∀ (s : State) (w : CmdWord) (rest : List Event) (i : Instr), s.agenda = .command w :: rest → decode w = .ok i →
    step s = exec i { s with agenda := rest }) ∧
  (∀ (s : State) (w : CmdWord) (rest : List Event) (e : DecodeReject), s.agenda = .command w :: rest →
    decode w = .error e → step s = .next (issue none { s with agenda := rest })) ∧
  (∀ (s : State) (nbits w : Nat) (i : Instr), decodeTableWord nbits w = some i →
    step (s.withFetchWord nbits w) = exec i s) ∧
  ∀ (s : State) (rest : List Event),
    (∀ addr n, s.agenda = .read addr n :: rest → step s = busRead addr n { s with agenda := rest }) ∧
    (∀ addr n v, s.agenda = .write addr n v :: rest → step s = busWrite addr n v { s with agenda := rest }) ∧
    (s.agenda = .complete :: rest → step s = .next (completionTurn { s with agenda := rest })) ∧
    (∀ v, s.agenda = .entropy v :: rest →
      step s = .next { s with agenda := rest, entropy := s.entropy ++ [v] }) ∧
    (s.agenda = .hardReset :: rest → step s = .next (resetBlock { s with agenda := rest })) ∧
    (s.agenda = [] → step s = .next (completionTurn s))

/-- R14: on an idle block, a command at the command level and the same command written to CMD and then completed leave the
same state, the bus response apart. The form of a command-level step, one move, is the model's choice (log entry 8). -/
def Obligations.CommandAndRegisterLevelsAgree : Prop :=
  ∀ (s : State) (v : Word) (rest : List Event), s.Idle →
    ∃ t s₁ s₂,
      step { s with agenda := .command (v.setWidth 32) :: rest } = .next t ∧
      step { s with agenda := .write (s.cfg.base + 0x018) 8 v :: .complete :: rest } = .next s₁ ∧
      step s₁ = .next s₂ ∧ t = { s₂ with response := s.response }

/-! ### Issue, faults and reset -/

/-- R203 and R240: the issue step reports the first failed check in the fixed order, and otherwise latches the command
and ARG. A fault changes STATUS alone (R202). -/
def Obligations.IssueReportsTheFirstFailedCheck : Prop :=
  ∀ (w : CmdWord) (s : State),
    (s.fault = true → issueWord w s = s) ∧
    (s.fault = false → s.busy = true → issueWord w s = s.faulted .overrun) ∧
    (s.Ready → (∀ i, decode w ≠ .ok i) → issueWord w s = s.faulted .illegalCommand) ∧
    ∀ i, s.Ready → decode w = .ok i →
      ((s.cfg.nctx ≤ i.ctx ∨ ∃ d, i.dst? = some d ∧ s.cfg.nctx ≤ d) → issueWord w s = s.faulted .badContext) ∧
      (i.ctx < s.cfg.nctx → (∀ d, i.dst? = some d → d < s.cfg.nctx) →
        (i.op ∉ [0x01#8, 0x02#8, 0x03#8] → s.seeded i.ctx = false → issueWord w s = s.faulted .notSeeded) ∧
        ((i.op ∈ [0x01#8, 0x02#8, 0x03#8] ∨ s.seeded i.ctx = true) →
          (∀ code, operandFault s.cfg s.args i = some code → issueWord w s = s.faulted code) ∧
          (operandFault s.cfg s.args i = none → issueWord w s = s.inFlight i)))

/-- The same at the command level: every command is ignored while FAULT = 1 (R205), faults with OVERRUN on a busy block and
with BAD_CONTEXT on a context number at or above NCTX, and every command but the three seeding ones faults with NOT_SEEDED on
an unseeded context (R202 to R204). -/
def Obligations.CommandsTrapAtIssue : Prop :=
  ∀ (i : Instr) (s : State),
    (s.fault = true → exec i s = .next s) ∧
    (s.fault = false → s.busy = true → exec i s = .next (s.faulted .overrun)) ∧
    (s.Ready → (s.cfg.nctx ≤ i.ctx ∨ ∃ d, i.dst? = some d ∧ s.cfg.nctx ≤ d) →
      exec i s = .next (s.faulted .badContext)) ∧
    (s.Ready → i.ctx < s.cfg.nctx → (∀ d, i.dst? = some d → d < s.cfg.nctx) →
      (∀ c, i ≠ .seedU64 c ∧ i ≠ .seedBytes c ∧ i ≠ .seedEnt c) → s.seeded i.ctx = false →
      exec i s = .next (s.faulted .notSeeded))

/-- R243: an OVERRUN discards the new word and leaves the command in flight, which completes as it would have and sets DONE = 1
and BUSY = 0; the fault stays and no further word is accepted. -/
def Obligations.OverrunLeavesTheCommandInFlight : Prop :=
  ∀ (s t : State) (l : Latch) (w : CmdWord), s.busy = true → s.fault = false → s.latch = some l →
    completionOf l.cmd l.args s = some t →
    issueWord w s = s.faulted .overrun ∧
      completionTurn (issueWord w s) = { t with fault := true, errcode := .overrun } ∧
      t.done = true ∧ t.busy = false ∧
      ∀ w', issueWord w' { t with fault := true, errcode := .overrun } = { t with fault := true, errcode := .overrun }

/-- R205: in the fault state every CMD write is ignored and nothing changes; a command in flight completes, reads of registers, of
OUTBUF and of reserved space return the current values, ARG writes are stored, and a CTRL write with bit 0 = 1 resets the
block. OUTBUF bytes no FILL has written, and `freeCount`, are the model's own (log entry 2) and are not stated. -/
def Obligations.FaultStateIgnoresCommandsOnly : Prop :=
  ∀ s : State, s.fault = true →
    (∀ v, memWrite 0x018 8 v s = { s with response := .ack }) ∧
    (∀ l t, s.latch = some l → completionOf l.cmd l.args s = some t → completionTurn s = t ∧ t.done = true ∧
      t.busy = false ∧ t.fault = true ∧ t.errcode = s.errcode) ∧
    (∀ off, off < 0x058 → off % 8 = 0 → memRead off 8 s = { s with response := .data (registerRead off s) }) ∧
    (∀ k n, n ∈ [1, 2, 4, 8] → k % n = 0 → k < s.cfg.outbufBytes → ∃ v : Word, v.toNat < 2 ^ (8 * n) ∧
      memRead (0x800 + k) n s =
        { s with response := .data v, freeCount := (memRead (0x800 + k) n s).freeCount } ∧
      ∀ j b, j < n → s.outbuf.read (k + j) = some b → v.extractLsb' (8 * j) 8 = b) ∧
    (∀ off n, n ∈ [1, 2, 4, 8] → off % n = 0 → 0x058 ≤ off → (off < 0x800 ∨ 0x800 + s.cfg.outbufBytes ≤ off) →
      memRead off n s = { s with response := .data 0#64 }) ∧
    (∀ i v, i < 4 → memWrite (0x020 + 8 * i) 8 v s = { s with args := s.args.set i v, response := .ack } ∧
      (s.args.set i v).get i = v ∧ ∀ j, j < 4 → j ≠ i → (s.args.set i v).get j = s.args.get j) ∧
    (∀ v : Word, v.getLsbD 0 = true → memWrite 0x008 8 v s = { resetBlock s with response := .ack })

/-- R206 and R207: only a reset leaves the fault state, and a reset does; until then ERRCODE keeps the code of the first
fault. -/
def Obligations.OnlyAResetLeavesTheFaultState : Prop :=
  ∀ s t : State, step s = .next t →
    (s.fault = true → (∀ e rest, s.agenda = e :: rest → ¬ e.Resets s.cfg) → t.fault = true ∧ t.errcode = s.errcode) ∧
    ∀ e rest, s.agenda = e :: rest → e.Resets s.cfg →
      t.fault = false ∧ t.errcode = .none ∧ ∀ c, t.seeded c = false

/-- R230: what a reset leaves, from any state, and what `State.reset` is. The state words and OUTBUF are unspecified there; the
model's choice for them (log entries 1 and 2) is not stated. -/
def Obligations.ResetLeavesTheResetValues : Prop :=
  (∀ (s t : State), (t = resetBlock s ∨ t = State.resetWith s.cfg) →
    (∀ c, t.seeded c = false) ∧ t.contexts.length = s.cfg.nctx ∧ statusWord t = 0#64 ∧ t.busy = false ∧
      t.done = false ∧ t.fault = false ∧ t.errcode = .none ∧ registerRead 0x008 t = 0#64 ∧
      (∀ i, t.args.get i = 0#64) ∧ t.res0 = 0#64 ∧ t.res1 = 0#64 ∧ t.lastDraws = 0#64 ∧
      (∀ k, t.outbuf.read k = none) ∧ t.latch = none ∧ registerRead 0x000 t = registerRead 0x000 s) ∧
  State.reset = State.resetWith Params.reference

/-- R231, R232 and R28: the two reset sources have the same effect at any time, a command in flight is dropped, and a CTRL
write with bit 0 = 0 does nothing. -/
def Obligations.BothResetsActAtAnyTime : Prop :=
  ∀ (s : State) (rest : List Event) (v : Word),
    (v.getLsbD 0 = true →
      step { s with agenda := .write (s.cfg.base + 0x008) 8 v :: rest } =
        .next { resetBlock s with agenda := rest, response := .ack }) ∧
    (v.getLsbD 0 = false →
      step { s with agenda := .write (s.cfg.base + 0x008) 8 v :: rest } =
        .next { s with agenda := rest, response := .ack }) ∧
    step { s with agenda := .hardReset :: rest } = .next { resetBlock s with agenda := rest } ∧
    completionTurn (resetBlock s) = resetBlock s

/-- R22: SEEDED[c] is cleared by a reset, of either source, and by no other step. -/
def Obligations.OnlyAResetClearsSeeded : Prop :=
  ∀ (s t : State) (c : Nat), step s = .next t →
    ((∃ e rest, s.agenda = e :: rest ∧ e.Resets s.cfg) → t.seeded c = false) ∧
    ((∀ e rest, s.agenda = e :: rest → ¬ e.Resets s.cfg) → s.seeded c = true → t.seeded c = true)

/-! ### The register window -/

/-- R54: which accesses get a bus error, and that a bus error changes no state of the block and is no block fault (R208). -/
def Obligations.BusErrorsChangeNothing : Prop :=
  ∀ (off n : Nat) (v : Word) (s : State),
    ((n ∉ [1, 2, 4, 8] ∨ off % n ≠ 0 ∨ (off < 0x058 ∧ n ≠ 8)) →
      memRead off n s = { s with response := .busError } ∧ memWrite off n v s = { s with response := .busError }) ∧
    (n ∈ [1, 2, 4, 8] → off % n = 0 → (off < 0x058 → n = 8) →
      (∃ d, (memRead off n s).response = .data d) ∧ (memWrite off n v s).response = .ack)

/-- R59: reads change nothing of the block (`freeCount` is the model's own, log entry 2), and writes have the effects listed
there and no others. -/
def Obligations.HostAccessEffects : Prop :=
  ∀ (off n : Nat) (v : Word) (s : State), n ∈ [1, 2, 4, 8] → off % n = 0 → (off < 0x058 → n = 8) →
    (memRead off n s = { s with response := (memRead off n s).response, freeCount := (memRead off n s).freeCount }) ∧
    (off = 0x018 → memWrite off n v s = { issueWord (v.extractLsb' 0 32) s with response := .ack }) ∧
    (off = 0x008 → memWrite off n v s = { (if v.getLsbD 0 then resetBlock s else s) with response := .ack }) ∧
    (∀ i, i < 4 → off = 0x020 + 8 * i → memWrite off n v s = { s with args := s.args.set i v, response := .ack }) ∧
    (off ∉ [0x008, 0x018, 0x020, 0x028, 0x030, 0x038] → memWrite off n v s = { s with response := .ack })

/-- R51 and R53: what a read of each register and of reserved space returns. -/
def Obligations.RegisterReadValues : Prop :=
  ∀ s : State,
    (memRead 0x000 8 s).response = .data (idWord s.cfg) ∧ (memRead 0x008 8 s).response = .data 0#64 ∧
    (memRead 0x010 8 s).response = .data (statusWord s) ∧ (memRead 0x018 8 s).response = .data 0#64 ∧
    (memRead 0x020 8 s).response = .data s.args.a0 ∧ (memRead 0x028 8 s).response = .data s.args.a1 ∧
    (memRead 0x030 8 s).response = .data s.args.a2 ∧ (memRead 0x038 8 s).response = .data s.args.a3 ∧
    (memRead 0x040 8 s).response = .data s.res0 ∧ (memRead 0x048 8 s).response = .data s.res1 ∧
    (memRead 0x050 8 s).response = .data s.lastDraws ∧
    ∀ off n, n ∈ [1, 2, 4, 8] → off % n = 0 → 0x058 ≤ off →
      (off < 0x800 ∨ 0x800 + s.cfg.outbufBytes ≤ off) → (memRead off n s).response = .data 0#64

/-- R30: the fields of STATUS. -/
def Obligations.StatusFields : Prop :=
  ∀ s : State, s.contexts.length ≤ 16 →
    (statusWord s).getLsbD 0 = s.busy ∧ (statusWord s).getLsbD 1 = s.done ∧ (statusWord s).getLsbD 2 = s.fault ∧
    (statusWord s).extractLsb' 3 5 = 0#5 ∧ (statusWord s).extractLsb' 8 8 = s.errcode.code ∧
    (statusWord s).extractLsb' 16 16 = 0#16 ∧ (∀ c, c < 16 → (statusWord s).getLsbD (32 + c) = s.seeded c) ∧
    (statusWord s).extractLsb' 48 16 = 0#16

/-- R27: the fields of ID and its value in the reference configuration. -/
def Obligations.IdFields : Prop :=
  (∀ p : Params, p.legal = true →
    (idWord p).extractLsb' 32 32 = 0x48555943#32 ∧ (idWord p).extractLsb' 24 8 = 0x01#8 ∧
      ((idWord p).extractLsb' 8 16).toNat = p.outbufBytes ∧ ((idWord p).extractLsb' 0 8).toNat = p.nctx) ∧
  idWord Params.reference = 0x4855594301010004#64

/-- R55: an n-byte OUTBUF read is little-endian and zero-extended. Bytes no FILL has written are free (log entry 2) and are not
stated. -/
def Obligations.OutbufReadsAreLittleEndian : Prop :=
  ∀ (s : State) (k n : Nat), n ∈ [1, 2, 4, 8] → k % n = 0 → k < s.cfg.outbufBytes → s.cfg.legal = true →
    ∃ v : Word, (memRead (0x800 + k) n s).response = .data v ∧ v.toNat < 2 ^ (8 * n) ∧
      ∀ j b, j < n → s.outbuf.read (k + j) = some b → v.extractLsb' (8 * j) 8 = b

/-- R241 and R242: a host access, an entropy word or an ignored access leaves the contexts, RES, LASTDRAWS and OUTBUF as they
were; only completion and reset change them. -/
def Obligations.OnlyCompletionWritesResults : Prop :=
  ∀ (s t : State) (e : Event) (rest : List Event), s.agenda = e :: rest → step s = .next t →
    e ≠ .complete → (∀ w, e ≠ .command w) → ¬ e.Resets s.cfg →
    t.contexts = s.contexts ∧ t.res0 = s.res0 ∧ t.res1 = s.res1 ∧ t.lastDraws = s.lastDraws ∧ t.outbuf = s.outbuf

/-- R245: ARG writes while a command is in flight do not affect it: the write and the completion step give the same state in
either order. -/
def Obligations.ArgWritesDoNotReachTheCommandInFlight : Prop :=
  ∀ (s : State) (i : Nat) (v : Word),
    completionTurn { s with args := s.args.set i v } =
      { completionTurn s with args := (completionTurn s).args.set i v }

/-! ### Seeding -/

/-- R101: Mix is the function written there, and it is a bijection. -/
def Obligations.MixIsABijection : Prop :=
  (∀ z : Word, mix z =
    let a := (z ^^^ (z >>> 30)) * 0xBF58476D1CE4E5B9#64
    let b := (a ^^^ (a >>> 27)) * 0x94D049BB133111EB#64
    b ^^^ (b >>> 31)) ∧
  Function.Bijective mix

/-- R105: the four words Expand gives are pairwise distinct, so at most one is 0, and no seeding path gives four zero
words. -/
def Obligations.SeedingNeverGivesTheZeroState : Prop :=
  (∀ seed : Word, [(expand seed).s0, (expand seed).s1, (expand seed).s2, (expand seed).s3].Nodup ∧
    expand seed ≠ Words.zero) ∧
  ∀ a : Args, bytesSeed a ≠ Words.zero

/-- SEED.U64 (R103): the four words are Mix of ARG[0] plus 1, 2, 3 and 4 times GAMMA. -/
def Obligations.SeedU64Completes : Prop :=
  ∀ (s : State) (c : Nat), s.Ready → c < s.cfg.nctx →
    exec (.seedU64 c) s = .next (s.completed c
      ⟨mix (s.args.a0 + 0x9E3779B97F4A7C15#64), mix (s.args.a0 + 2#64 * 0x9E3779B97F4A7C15#64),
        mix (s.args.a0 + 3#64 * 0x9E3779B97F4A7C15#64), mix (s.args.a0 + 4#64 * 0x9E3779B97F4A7C15#64)⟩
      0#64 0#64 0)

/-- SEED.BYTES (R104): the operands unchanged, but Expand(0) for the all-zero seed. -/
def Obligations.SeedBytesCompletes : Prop :=
  ∀ (s : State) (c : Nat), s.Ready → c < s.cfg.nctx →
    (s.args = Args.zero → exec (.seedBytes c) s = .next (s.completed c (expand 0#64) 0#64 0#64 0)) ∧
    (s.args ≠ Args.zero → exec (.seedBytes c) s =
      .next (s.completed c ⟨s.args.a0, s.args.a1, s.args.a2, s.args.a3⟩ 0#64 0#64 0))

/-- SEED.ENT (R107, R248): it discards zero words and completes with the first non-zero word. While none has been delivered it
stays in flight, and the completion agent's turn changes nothing. The model's choice: the words wait in a list (log entry 4),
and a waiting SEED.ENT leaves the zero words in it (log entry 13). -/
def Obligations.SeedEntTakesTheFirstNonZeroWord : Prop :=
  ∀ (s : State) (c : Nat), s.Ready → c < s.cfg.nctx →
    (∀ (k : Nat) (v : Word) (rest : List Word), v ≠ 0#64 → s.entropy = List.replicate k 0#64 ++ v :: rest →
      exec (.seedEnt c) s = .next (({ s with entropy := rest }).completed c (expand v) 0#64 0#64 0)) ∧
    (∀ k : Nat, s.entropy = List.replicate k 0#64 →
      exec (.seedEnt c) s = .next (s.inFlight (.seedEnt c)) ∧
        completionTurn (s.inFlight (.seedEnt c)) = s.inFlight (.seedEnt c))

/-- CLONE (R108): the four words are copied and the destination is seeded; the source is unchanged. -/
def Obligations.CloneCompletes : Prop :=
  ∀ (s : State) (c d : Nat), s.Ready → s.CanDraw c → d < s.cfg.nctx →
    exec (.clone c d) s = .next (s.completed d (s.words c) 0#64 0#64 0)

/-! ### The generator -/

/-- NEXT and Draw (R120, R121), with the update written out word by word. -/
def Obligations.NextCompletes : Prop :=
  ∀ (s : State) (c : Nat) (s0 s1 s2 s3 : Word), s.Ready → s.CanDraw c → s.words c = ⟨s0, s1, s2, s3⟩ →
    exec (.next c) s = .next (s.completed c
      ⟨s0 ^^^ s1 ^^^ s3, s0 ^^^ s1 ^^^ s2, s0 ^^^ s2 ^^^ (s1 <<< 17), (s1 ^^^ s3).rotateLeft 45⟩
      ((s0 + s3).rotateLeft 23 + s0) 0#64 1)

/-- Draw's state update is linear over GF(2) and invertible, so it takes a non-zero state to a non-zero state (R23, R120). -/
def Obligations.DrawUpdateIsLinearAndInvertible : Prop :=
  (∀ a b : Words, drawNext (a.xor b) = (drawNext a).xor (drawNext b)) ∧ Function.Bijective drawNext ∧
    ∀ g : Words, g ≠ Words.zero → drawNext g ≠ Words.zero

/-- JUMP and LJUMP (R123 to R125): the words become the exclusive or of the states after n draws, over the positions n of the
set bits of the polynomial (constants of R122), and LASTDRAWS is 256. -/
def Obligations.JumpsComplete : Prop :=
  ∀ (s : State) (c : Nat), s.Ready → s.CanDraw c →
    let sum (p : BitVec 256) : Words := (List.range 256).foldl
      (fun acc n => if p.getLsbD n then acc.xor (wordsAfter n (s.words c)) else acc) Words.zero
    exec (.jump c) s = .next (s.completed c
      (sum 0x39ABDC4529B1661CA9582618E03FC9AAD5A61266F0C9392C180EC6D33CFD0ABA#256) 0#64 0#64 256) ∧
    exec (.ljump c) s = .next (s.completed c
      (sum 0x39109BB02ACBE63577710069854EE241C5004E441C522FB376E15D3EFEFDCBBF#256) 0#64 0#64 256)

/-- R126: JUMP completes and leaves context c in the state that 2^128 draws would leave, LJUMP in the state that 2^192 draws would
leave, from every state of the words; JumpWith is linear, and the two take a non-zero state to a non-zero one. -/
def Obligations.JumpsEqualTheirDrawCounts : Prop :=
  (∀ (s : State) (c : Nat), s.Ready → s.CanDraw c →
    exec (.jump c) s = .next (s.completed c (wordsAfter (2 ^ 128) (s.words c)) 0#64 0#64 256) ∧
    exec (.ljump c) s = .next (s.completed c (wordsAfter (2 ^ 192) (s.words c)) 0#64 0#64 256)) ∧
  ∀ g h : Words, jumpWith jumpPoly g = wordsAfter (2 ^ 128) g ∧ jumpWith longJumpPoly g = wordsAfter (2 ^ 192) g ∧
    (∀ j, jumpWith j (g.xor h) = (jumpWith j g).xor (jumpWith j h)) ∧
    (g ≠ Words.zero → jumpWith jumpPoly g ≠ Words.zero ∧ jumpWith longJumpPoly g ≠ Words.zero)

/-- A jump by any polynomial commutes with drawing and with every other jump, so the place of the jumps in a stream partition
does not matter (R123, R126, R127). -/
def Obligations.JumpsCommuteWithDraws : Prop :=
  ∀ (j k g : Words),
    jumpWith j (drawNext g) = drawNext (jumpWith j g) ∧ jumpWith j (jumpWith k g) = jumpWith k (jumpWith j g)

/-! ### The output stream -/

/-- RAND.U8, U16, U32, U64, I8, I16, I32 and I64 (R143): the top N bits of one draw, zero-extended or sign-extended.
RAND.U128 and RAND.I128 (R144): two draws, the low word first. -/
def Obligations.RandIntegersComplete : Prop :=
  ∀ (s : State) (t : IntTy) (c : Nat), s.Ready → s.CanDraw c →
    let x := nthDraw (s.words c) 0
    exec (t.randInstr c) s = .next (s.completed c (wordsAfter 1 (s.words c))
      (if t ∈ [.i8, .i16, .i32, .i64] then x.sshiftRight (64 - t.bits) else x >>> (64 - t.bits)) 0#64 1) ∧
    ∀ i, (i = .randU128 c ∨ i = .randI128 c) →
      exec i s = .next (s.completed c (wordsAfter 2 (s.words c)) x (nthDraw (s.words c) 1) 2)

/-- RAND.BOOL (R145): true for exactly the draws 1 to 2^63 - 1. -/
def Obligations.RandBoolCompletes : Prop :=
  ∀ (s : State) (c : Nat), s.Ready → s.CanDraw c →
    let x := nthDraw (s.words c) 0
    exec (.randBool c) s = .next (s.completed c (wordsAfter 1 (s.words c))
      (if 1 ≤ x.toNat ∧ x.toNat ≤ 2 ^ 63 - 1 then 1#64 else 0#64) 0#64 1)

/-- RAND.F32 and RAND.F64 (R146, R147): one draw, and the pattern of its unit float in RES[0]. What that pattern is:
`UnitFloatsAreExactAndBelowOne`. -/
def Obligations.RandFloatsComplete : Prop :=
  ∀ (s : State) (c : Nat), s.Ready → s.CanDraw c →
    let x := nthDraw (s.words c) 0
    exec (.randF32 c) s = .next (s.completed c (wordsAfter 1 (s.words c))
      (BitVec.ofNat 64 (binary32.unitBits (x.toNat / 2 ^ 41))) 0#64 1) ∧
    exec (.randF64 c) s = .next (s.completed c (wordsAfter 1 (s.words c))
      (BitVec.ofNat 64 (binary64.unitBits (x.toNat / 2 ^ 12))) 0#64 1)

/-- R146 to R149: the unit floats are finite, not negative, exactly m * 2^-23 and m * 2^-52 (a unit is 2^-149 and 2^-1074), and
below 1.0, for every draw. -/
def Obligations.UnitFloatsAreExactAndBelowOne : Prop :=
  ∀ x : Word,
    (binary32.unitOfDraw x < 0x3F800000 ∧
      binary32.signedUnits (binary32.unitOfDraw x) = ((x.toNat / 2 ^ 41 * 2 ^ 126 : Nat) : Int)) ∧
    (binary64.unitOfDraw x < 0x3FF0000000000000 ∧
      binary64.signedUnits (binary64.unitOfDraw x) = ((x.toNat / 2 ^ 12 * 2 ^ 1022 : Nat) : Int))

/-- FILL (R140, R141): ceil(L/8) draws; bytes 0 to L-1 of OUTBUF are the little-endian bytes of the draws in draw order, and
every byte above is as before (R35 and R140; the model's reading of spec/93_implementation_defined.md beside them is log entry
14). A byte count above OUTBUF_BYTES is FILL_TOO_LONG at issue. -/
def Obligations.FillCompletes : Prop :=
  ∀ (s : State) (c : Nat), s.Ready → s.CanDraw c →
    let len := s.args.a0.toNat
    let n := (len + 7) / 8
    (len ≤ s.cfg.outbufBytes → ∃ m : Memory,
      exec (.fill c) s = .next { s.completed c (wordsAfter n (s.words c)) 0#64 0#64 n with outbuf := m } ∧
      (∀ k j, j < 8 → 8 * k + j < len →
        m.read (8 * k + j) = some ((nthDraw (s.words c) k).extractLsb' (8 * j) 8)) ∧
      ∀ k, len ≤ k → m.read k = s.outbuf.read k) ∧
    (s.cfg.outbufBytes < len → exec (.fill c) s = .next (s.faulted .fillTooLong))

/-- R66: after a FILL, 8-, 4- and 1-byte reads of OUTBUF see the draws, their halves and their bytes. -/
def Obligations.ReadsAfterFillSeeTheDraws : Prop :=
  ∀ (s t : State) (c k : Nat), s.cfg.legal = true → s.Ready → s.CanDraw c → s.args.a0.toNat ≤ s.cfg.outbufBytes →
    8 * (k + 1) ≤ s.args.a0.toNat → exec (.fill c) s = .next t →
    let x := nthDraw (s.words c) k
    (memRead (0x800 + 8 * k) 8 t).response = .data x ∧
    (memRead (0x800 + 8 * k) 4 t).response = .data ((x.extractLsb' 0 32).setWidth 64) ∧
    (memRead (0x800 + 8 * k + 4) 4 t).response = .data ((x.extractLsb' 32 32).setWidth 64) ∧
    ∀ j, j < 8 → (memRead (0x800 + 8 * k + j) 1 t).response = .data ((x.extractLsb' (8 * j) 8).setWidth 64)

/-! ### Integer ranges -/

/-- The value a RANGE.t operand has: bits N-1:0 read as uint_N or sint_N, whatever the bits above hold (R11, R79). -/
def Obligations.RangeOperandsReadTheLowBits : Prop :=
  ∀ (t : IntTy) (w : Word),
    (t ∈ [.u8, .u16, .u32, .u64] → t.ofReg w = ((w.toNat % 2 ^ t.bits : Nat) : Int)) ∧
    (t ∈ [.i8, .i16, .i32, .i64] → t.ofReg w =
      if w.toNat % 2 ^ t.bits < 2 ^ (t.bits - 1) then ((w.toNat % 2 ^ t.bits : Nat) : Int)
      else ((w.toNat % 2 ^ t.bits : Nat) : Int) - 2 ^ t.bits)

/-- EMPTY_RANGE (R161, R162), for every RANGE.t: the fault is raised exactly when the greatest value allowed lies below the
least one allowed. -/
def Obligations.EmptyRangesTrap : Prop :=
  ∀ (s : State) (t : IntTy) (c : Nat) (lx ux : Bool), s.Ready → s.CanDraw c →
    (exec (t.rangeInstr c lx ux) s = .next (s.faulted .emptyRange) ↔
      t.ofReg s.args.a1 - (if ux then 1 else 0) < t.ofReg s.args.a0 + (if lx then 1 else 0))

/-- The raw path (R163), for every RANGE.t: the full range, inclusive at both ends, gives the state RAND.t gives. -/
def Obligations.FullRangesCompleteAsRand : Prop :=
  ∀ (s : State) (t : IntTy) (c : Nat), s.Ready → s.CanDraw c → t.ofReg s.args.a0 = t.minVal →
    t.ofReg s.args.a1 = t.maxVal →
    let x := nthDraw (s.words c) 0
    exec (t.rangeInstr c false false) s = .next (s.completed c (wordsAfter 1 (s.words c))
      (if t ∈ [.i8, .i16, .i32, .i64] then x.sshiftRight (64 - t.bits) else x >>> (64 - t.bits)) 0#64 1) ∧
    exec (t.rangeInstr c false false) s = exec (t.randInstr c) s

/-- Lemire's method (R160, R164 to R167), for every RANGE.t: with a and b the normalised bounds, range = b - a + 1 and
t = (2^64 - range) mod range, the first draw k whose product has low half at least t is taken, a plus its high half is
delivered, and k + 1 draws are counted. The bound on k is the fuel of the model's loop (log entry 7, the model's choice); that it
shuts out no accepted draw is `FuelRunsOutOnlyWhereTheLoopNeverEnds`. -/
def Obligations.RangesCompleteByLemire : Prop :=
  ∀ (s : State) (ty : IntTy) (c : Nat) (lx ux : Bool) (k : Nat), s.Ready → s.CanDraw c →
    let a := ty.ofReg s.args.a0 + (if lx then 1 else 0)
    let b := ty.ofReg s.args.a1 - (if ux then 1 else 0)
    let range := (b - a + 1).toNat
    let t := (2 ^ 64 - range) % range
    let product (n : Nat) : Nat := (nthDraw (s.words c) n).toNat * range
    a ≤ b → ¬ (a = ty.minVal ∧ b = ty.maxVal) → k < 2 ^ 256 → (∀ n, n < k → product n % 2 ^ 64 < t) →
    t ≤ product k % 2 ^ 64 →
    exec (ty.rangeInstr c lx ux) s = .next (s.completed c (wordsAfter (k + 1) (s.words c))
      (BitVec.ofInt 64 (a + ((product k / 2 ^ 64 : Nat) : Int))) 0#64 (k + 1))

/-- R166: a RANGE.t that completes delivers a value of its type between the normalised bounds. -/
def Obligations.RangeResultsLieInTheRange : Prop :=
  ∀ (s u : State) (ty : IntTy) (c : Nat) (lx ux : Bool), s.Ready → s.CanDraw c →
    exec (ty.rangeInstr c lx ux) s = .next u → u.done = true →
    ty.ofReg s.args.a0 + (if lx then 1 else 0) ≤ ty.ofReg u.res0 ∧
      ty.ofReg u.res0 ≤ ty.ofReg s.args.a1 - (if ux then 1 else 0) ∧ u.res0 = BitVec.ofInt 64 (ty.ofReg u.res0)

/-- The fuel of the model's rejection loop is no outcome of the block (R168, R248; log entry 7): the loop has no result exactly
when no draw is ever accepted. -/
def Obligations.FuelRunsOutOnlyWhereTheLoopNeverEnds : Prop :=
  ∀ (range : Word) (g : Words), 0#64 < range →
    (lemire draw loopFuel range g = none ↔ ∀ n, lo64 (mulfull (nthDraw g n) range) < threshold range)

/-- R168: the draw 2^64 - 1 is accepted for every range, so a loop that meets it, as whichever draw n, ends by then with a
result below the range. `loopFuel` is the model's choice (log entry 7); n is not bounded by it. -/
def Obligations.TheGreatestDrawIsAlwaysAccepted : Prop :=
  ∀ (range : Word) (g : Words) (n : Nat), 0#64 < range → nthDraw g n = 0xFFFFFFFFFFFFFFFF#64 →
    ¬ lo64 (mulfull (nthDraw g n) range) < threshold range ∧
    ∃ h g' d, lemire draw loopFuel range g = some (h, g', d) ∧ d ≤ n + 1 ∧ h < range

/-- R169: Lemire's method is exactly uniform over the draw: every h in [0, range) has (2^64 - t) / range accepted draws,
2^64 - t draws are accepted in all, and t are rejected. -/
def Obligations.LemireIsExactlyUniform : Prop :=
  ∀ range h : Word, h < range →
    (Finset.univ.filter fun x : Word =>
      ¬ lo64 (mulfull x range) < threshold range ∧ hi64 (mulfull x range) = h).card * range.toNat =
      2 ^ 64 - (threshold range).toNat ∧
    (Finset.univ.filter fun x : Word => ¬ lo64 (mulfull x range) < threshold range).card =
      2 ^ 64 - (threshold range).toNat ∧
    (Finset.univ.filter fun x : Word => lo64 (mulfull x range) < threshold range).card = (threshold range).toNat

/-! ### Float intervals -/

/-- R180: one rounding is to nearest, ties to even, with gradual underflow and overflow to infinity. `num / 2^k` units is the
exact value; patterns below +inf are the finite magnitudes. -/
def Obligations.RoundingIsToNearestTiesToEven : Prop :=
  ∀ (f : FloatFmt) (num k : Nat), (f = binary32 ∨ f = binary64) →
    let r := f.roundUnits num k
    let dist (p : Nat) : Nat := ((f.units p * 2 ^ k : Nat) - (num : Int)).natAbs
    r ≤ f.infBits ∧
    (r < f.infBits → ∀ p, p < f.infBits → dist r ≤ dist p ∧ (dist p = dist r → p ≠ r → r % 2 = 0)) ∧
    (r = f.infBits ↔ (f.units (f.infBits - 1) + f.units f.infBits) * 2 ^ k ≤ 2 * num)

/-- R180: fadd_T, fsub_T and fmul_T round the exact sum, difference and product of the operands' values once, and flt_T compares the
values. A product counts units of the least subnormal twice, so it is x * y / 2^149 or x * y / 2^1074 units. An exact zero has
the sign IEEE 754 gives it under this rounding, an infinity and a NaN act as IEEE 754 says. -/
def Obligations.FloatOperationsRoundOnce : Prop :=
  ∀ (f : FloatFmt) (k a b : Nat), (f = binary32 ∧ k = 149 ∨ f = binary64 ∧ k = 1074) →
    a < 2 * f.signWeight → b < 2 * f.signWeight →
    let x := f.signedUnits a
    let y := f.signedUnits b
    (f.isFinite a = true → f.isFinite b = true →
      f.IsRounding (x + y) 0 (f.add a b) ∧ f.IsRounding (x - y) 0 (f.sub a b) ∧ f.IsRounding (x * y) k (f.mul a b) ∧
      (x + y = 0 → f.isNeg (f.add a b) = (f.isNeg a && f.isNeg b)) ∧
      (x - y = 0 → f.isNeg (f.sub a b) = (f.isNeg a && !f.isNeg b)) ∧
      (x * y = 0 → f.isNeg (f.mul a b) = (f.isNeg a != f.isNeg b)) ∧
      f.lt a b = decide (x < y)) ∧
    (f.isInf a = true → f.isFinite b = true →
      f.add a b = a ∧ f.add b a = a ∧ f.sub a b = a ∧ f.sub b a = f.neg a ∧
      (y = 0 → f.isNaN (f.mul a b) = true ∧ f.isNaN (f.mul b a) = true) ∧
      (y ≠ 0 → f.mul a b = f.withSign (f.isNeg a != f.isNeg b) f.infBits ∧ f.mul b a = f.mul a b) ∧
      f.lt a b = f.isNeg a ∧ f.lt b a = !f.isNeg a) ∧
    (f.isInf a = true → f.isInf b = true →
      (a = b → f.add a b = a ∧ f.isNaN (f.sub a b) = true ∧ f.lt a b = false) ∧
      (a ≠ b → f.isNaN (f.add a b) = true ∧ f.sub a b = a ∧ f.lt a b = f.isNeg a) ∧
      f.mul a b = f.withSign (f.isNeg a != f.isNeg b) f.infBits) ∧
    ((f.isNaN a = true ∨ f.isNaN b = true) →
      f.isNaN (f.add a b) = true ∧ f.isNaN (f.sub a b) = true ∧ f.isNaN (f.mul a b) = true ∧ f.lt a b = false)

/-- INVALID_INTERVAL (R182, R183): raised exactly when a bound has an exponent field of all ones or low < high fails as values;
the two zeros are equal. -/
def Obligations.InvalidIntervalsTrap : Prop :=
  ∀ (s : State) (c : Nat), s.Ready → s.CanDraw c →
    (exec (.rangeF32 c) s = .next (s.faulted .invalidInterval) ↔
      (s.args.a0.extractLsb' 23 8 = 0xFF#8 ∨ s.args.a1.extractLsb' 23 8 = 0xFF#8 ∨
        binary32.signedUnits (s.args.a1.extractLsb' 0 32).toNat ≤
          binary32.signedUnits (s.args.a0.extractLsb' 0 32).toNat)) ∧
    (exec (.rangeF64 c) s = .next (s.faulted .invalidInterval) ↔
      (s.args.a0.extractLsb' 52 11 = 0x7FF#11 ∨ s.args.a1.extractLsb' 52 11 = 0x7FF#11 ∨
        binary64.signedUnits s.args.a1.toNat ≤ binary64.signedUnits s.args.a0.toNat))

/-- RANGE.F32 and RANGE.F64 (R181, R182, R186): one draw, low + scale * u with scale = high - low and two further roundings,
and QNAN_T for a NaN. -/
def Obligations.RangeFloatsComplete : Prop :=
  ∀ (s : State) (c : Nat), s.Ready → s.CanDraw c →
    let x := nthDraw (s.words c) 0
    (validInterval binary32 s.args = true →
      let low := (s.args.a0.extractLsb' 0 32).toNat
      let high := (s.args.a1.extractLsb' 0 32).toNat
      let r := binary32.add low (binary32.mul (binary32.sub high low) (binary32.unitBits (x.toNat / 2 ^ 41)))
      exec (.rangeF32 c) s = .next (s.completed c (wordsAfter 1 (s.words c))
        (if binary32.isNaN r then s.cfg.qnan32.setWidth 64 else BitVec.ofNat 64 r) 0#64 1)) ∧
    (validInterval binary64 s.args = true →
      let low := s.args.a0.toNat
      let high := s.args.a1.toNat
      let r := binary64.add low (binary64.mul (binary64.sub high low) (binary64.unitBits (x.toNat / 2 ^ 12)))
      exec (.rangeF64 c) s = .next (s.completed c (wordsAfter 1 (s.words c))
        (if binary64.isNaN r then s.cfg.qnan64 else BitVec.ofNat 64 r) 0#64 1))

/-- R184 item 1: where scale is finite the result is finite and lies in the closed interval [low, high]. -/
def Obligations.FiniteScalesStayInTheClosedInterval : Prop :=
  ∀ (f : FloatFmt) (a : Args) (x : Word), (f = binary32 ∨ f = binary64) → validInterval f a = true →
    let low := f.ofReg a.a0
    let high := f.ofReg a.a1
    f.isFinite (f.sub high low) = true →
    let r := scaleFloat f low high x
    f.isFinite r = true ∧ f.signedUnits low ≤ f.signedUnits r ∧ f.signedUnits r ≤ f.signedUnits high

/-- R184 items 2 and 3 and R185: where scale overflows, u = 0 gives a NaN and every other u gives +inf; no result is -inf or
-0.0, and none is a NaN when scale is finite. -/
def Obligations.FloatResultOutcomes : Prop :=
  ∀ (f : FloatFmt) (a : Args) (x : Word), (f = binary32 ∨ f = binary64) → validInterval f a = true →
    let scale := f.sub (f.ofReg a.a1) (f.ofReg a.a0)
    let r := scaleFloat f (f.ofReg a.a0) (f.ofReg a.a1) x
    (f.isFinite scale = false →
      scale = f.infBits ∧ (f.unitMantissa x = 0 → f.isNaN r = true) ∧ (f.unitMantissa x ≠ 0 → r = f.infBits)) ∧
    (f.isFinite scale = true → f.isNaN r = false) ∧ r ≠ f.signWeight + f.infBits ∧ r ≠ f.signWeight

/-! ### The whole machine -/

/-- The reset state is well formed, and no context of it breaks R23. -/
def Obligations.ResetIsWellFormed : Prop := State.reset.Inv ∧ State.reset.SeededNonZero

/-- Every step from a well-formed state leaves a well-formed state (R20, R21, R31, R32, R35, R36, R201). -/
def Obligations.EveryStepKeepsTheBlockWellFormed : Prop :=
  ∀ s t : State, s.Inv → step s = .next t → t.Inv

/-- R23: a seeded context is never all zero. Every step keeps it, whichever command it issues or completes. -/
def Obligations.SeededContextsStayNonZero : Prop :=
  ∀ s t : State, s.Inv → s.SeededNonZero → step s = .next t → t.SeededNonZero

/-- The frame of every command (R21, R24, R25): the contexts other than the one it writes, ARG, the parameters and the model's
own fields are as before, OUTBUF is as before but for FILL, and entropy words are taken by SEED.ENT alone. -/
def Obligations.CommandsTouchOnlyTheirContext : Prop :=
  ∀ (i : Instr) (s t : State), exec i s = .next t →
    (∀ e, e ≠ i.dst?.getD i.ctx → t.ctx e = s.ctx e) ∧ t.contexts.length = s.contexts.length ∧ t.args = s.args ∧
      t.cfg = s.cfg ∧ t.agenda = s.agenda ∧ t.response = s.response ∧ t.freeCount = s.freeCount ∧
      ((∀ c, i ≠ .fill c) → ∀ k, t.outbuf.read k = s.outbuf.read k) ∧
      ((∀ c, i ≠ .seedEnt c) → t.entropy = s.entropy)

/-- R109 and R151: a drawing command, JUMP or LJUMP on two contexts that hold the same words gives the same results, draw
count and OUTBUF, and leaves the same words. -/
def Obligations.SameWordsGiveTheSameResults : Prop :=
  ∀ (i : Instr) (s t u : State) (c d : Nat), i.op ∉ [0x01#8, 0x02#8, 0x03#8, 0x04#8] → s.Inv → s.CanDraw c →
    s.CanDraw d → s.words c = s.words d → exec (withContext c i) s = .next t → exec (withContext d i) s = .next u →
    t.res0 = u.res0 ∧ t.res1 = u.res1 ∧ t.lastDraws = u.lastDraws ∧ t.outbuf = u.outbuf ∧
      t.words c = u.words d ∧ statusWord t = statusWord u

/-- R21: the state words of unseeded contexts are never observable: two well-formed states that differ only in them step to
states that differ only in them, with the same response. -/
def Obligations.UnseededWordsAreUnobservable : Prop :=
  ∀ s s' t : State, s.Inv → SameButUnseeded s s' → step s = .next t →
    ∃ t', step s' = .next t' ∧ SameButUnseeded t t'
end

