-- ==== Sys2Proof/Laws/State.lean ====
section
/-! SUPPORT. One lemma per field of State for each update of it, so that no proof unfolds a record update. -/

namespace Sys2Proof.Machine

/-! ### setWords -/

@[simp] theorem setWords_contexts (s : State) (c : Nat) (w : Words) : (s.setWords c w).contexts = s.contexts.set c ⟨w, s.seeded c⟩ := rfl
@[simp] theorem setWords_args (s : State) (c : Nat) (w : Words) : (s.setWords c w).args = s.args := rfl
@[simp] theorem setWords_res0 (s : State) (c : Nat) (w : Words) : (s.setWords c w).res0 = s.res0 := rfl
@[simp] theorem setWords_res1 (s : State) (c : Nat) (w : Words) : (s.setWords c w).res1 = s.res1 := rfl
@[simp] theorem setWords_lastDraws (s : State) (c : Nat) (w : Words) : (s.setWords c w).lastDraws = s.lastDraws := rfl
@[simp] theorem setWords_busy (s : State) (c : Nat) (w : Words) : (s.setWords c w).busy = s.busy := rfl
@[simp] theorem setWords_done (s : State) (c : Nat) (w : Words) : (s.setWords c w).done = s.done := rfl
@[simp] theorem setWords_fault (s : State) (c : Nat) (w : Words) : (s.setWords c w).fault = s.fault := rfl
@[simp] theorem setWords_errcode (s : State) (c : Nat) (w : Words) : (s.setWords c w).errcode = s.errcode := rfl
@[simp] theorem setWords_outbuf (s : State) (c : Nat) (w : Words) : (s.setWords c w).outbuf = s.outbuf := rfl
@[simp] theorem setWords_latch (s : State) (c : Nat) (w : Words) : (s.setWords c w).latch = s.latch := rfl
@[simp] theorem setWords_cfg (s : State) (c : Nat) (w : Words) : (s.setWords c w).cfg = s.cfg := rfl
@[simp] theorem setWords_entropy (s : State) (c : Nat) (w : Words) : (s.setWords c w).entropy = s.entropy := rfl
@[simp] theorem setWords_agenda (s : State) (c : Nat) (w : Words) : (s.setWords c w).agenda = s.agenda := rfl
@[simp] theorem setWords_response (s : State) (c : Nat) (w : Words) : (s.setWords c w).response = s.response := rfl
@[simp] theorem setWords_freeCount (s : State) (c : Nat) (w : Words) : (s.setWords c w).freeCount = s.freeCount := rfl

/-! ### seedWith -/

@[simp] theorem seedWith_contexts (s : State) (c : Nat) (w : Words) : (s.seedWith c w).contexts = s.contexts.set c ⟨w, true⟩ := rfl
@[simp] theorem seedWith_args (s : State) (c : Nat) (w : Words) : (s.seedWith c w).args = s.args := rfl
@[simp] theorem seedWith_res0 (s : State) (c : Nat) (w : Words) : (s.seedWith c w).res0 = s.res0 := rfl
@[simp] theorem seedWith_res1 (s : State) (c : Nat) (w : Words) : (s.seedWith c w).res1 = s.res1 := rfl
@[simp] theorem seedWith_lastDraws (s : State) (c : Nat) (w : Words) : (s.seedWith c w).lastDraws = s.lastDraws := rfl
@[simp] theorem seedWith_busy (s : State) (c : Nat) (w : Words) : (s.seedWith c w).busy = s.busy := rfl
@[simp] theorem seedWith_done (s : State) (c : Nat) (w : Words) : (s.seedWith c w).done = s.done := rfl
@[simp] theorem seedWith_fault (s : State) (c : Nat) (w : Words) : (s.seedWith c w).fault = s.fault := rfl
@[simp] theorem seedWith_errcode (s : State) (c : Nat) (w : Words) : (s.seedWith c w).errcode = s.errcode := rfl
@[simp] theorem seedWith_outbuf (s : State) (c : Nat) (w : Words) : (s.seedWith c w).outbuf = s.outbuf := rfl
@[simp] theorem seedWith_latch (s : State) (c : Nat) (w : Words) : (s.seedWith c w).latch = s.latch := rfl
@[simp] theorem seedWith_cfg (s : State) (c : Nat) (w : Words) : (s.seedWith c w).cfg = s.cfg := rfl
@[simp] theorem seedWith_entropy (s : State) (c : Nat) (w : Words) : (s.seedWith c w).entropy = s.entropy := rfl
@[simp] theorem seedWith_agenda (s : State) (c : Nat) (w : Words) : (s.seedWith c w).agenda = s.agenda := rfl
@[simp] theorem seedWith_response (s : State) (c : Nat) (w : Words) : (s.seedWith c w).response = s.response := rfl
@[simp] theorem seedWith_freeCount (s : State) (c : Nat) (w : Words) : (s.seedWith c w).freeCount = s.freeCount := rfl

/-! ### raiseFault -/

@[simp] theorem raiseFault_contexts (s : State) (code : FaultCode) : (raiseFault code s).contexts = s.contexts := rfl
@[simp] theorem raiseFault_args (s : State) (code : FaultCode) : (raiseFault code s).args = s.args := rfl
@[simp] theorem raiseFault_res0 (s : State) (code : FaultCode) : (raiseFault code s).res0 = s.res0 := rfl
@[simp] theorem raiseFault_res1 (s : State) (code : FaultCode) : (raiseFault code s).res1 = s.res1 := rfl
@[simp] theorem raiseFault_lastDraws (s : State) (code : FaultCode) : (raiseFault code s).lastDraws = s.lastDraws := rfl
@[simp] theorem raiseFault_busy (s : State) (code : FaultCode) : (raiseFault code s).busy = s.busy := rfl
@[simp] theorem raiseFault_done (s : State) (code : FaultCode) : (raiseFault code s).done = false := rfl
@[simp] theorem raiseFault_fault (s : State) (code : FaultCode) : (raiseFault code s).fault = true := rfl
@[simp] theorem raiseFault_errcode (s : State) (code : FaultCode) : (raiseFault code s).errcode = code := rfl
@[simp] theorem raiseFault_outbuf (s : State) (code : FaultCode) : (raiseFault code s).outbuf = s.outbuf := rfl
@[simp] theorem raiseFault_latch (s : State) (code : FaultCode) : (raiseFault code s).latch = s.latch := rfl
@[simp] theorem raiseFault_cfg (s : State) (code : FaultCode) : (raiseFault code s).cfg = s.cfg := rfl
@[simp] theorem raiseFault_entropy (s : State) (code : FaultCode) : (raiseFault code s).entropy = s.entropy := rfl
@[simp] theorem raiseFault_agenda (s : State) (code : FaultCode) : (raiseFault code s).agenda = s.agenda := rfl
@[simp] theorem raiseFault_response (s : State) (code : FaultCode) : (raiseFault code s).response = s.response := rfl
@[simp] theorem raiseFault_freeCount (s : State) (code : FaultCode) : (raiseFault code s).freeCount = s.freeCount := rfl

/-! ### resetBlock -/

@[simp] theorem resetBlock_contexts (s : State) : (resetBlock s).contexts = List.replicate s.cfg.nctx GenCtx.unseeded := rfl
@[simp] theorem resetBlock_args (s : State) : (resetBlock s).args = Args.zero := rfl
@[simp] theorem resetBlock_res0 (s : State) : (resetBlock s).res0 = 0#64 := rfl
@[simp] theorem resetBlock_res1 (s : State) : (resetBlock s).res1 = 0#64 := rfl
@[simp] theorem resetBlock_lastDraws (s : State) : (resetBlock s).lastDraws = 0#64 := rfl
@[simp] theorem resetBlock_busy (s : State) : (resetBlock s).busy = false := rfl
@[simp] theorem resetBlock_done (s : State) : (resetBlock s).done = false := rfl
@[simp] theorem resetBlock_fault (s : State) : (resetBlock s).fault = false := rfl
@[simp] theorem resetBlock_errcode (s : State) : (resetBlock s).errcode = .none := rfl
@[simp] theorem resetBlock_outbuf (s : State) : (resetBlock s).outbuf = [] := rfl
@[simp] theorem resetBlock_latch (s : State) : (resetBlock s).latch = none := rfl
@[simp] theorem resetBlock_cfg (s : State) : (resetBlock s).cfg = s.cfg := rfl
@[simp] theorem resetBlock_entropy (s : State) : (resetBlock s).entropy = s.entropy := rfl
@[simp] theorem resetBlock_agenda (s : State) : (resetBlock s).agenda = s.agenda := rfl
@[simp] theorem resetBlock_response (s : State) : (resetBlock s).response = s.response := rfl
@[simp] theorem resetBlock_freeCount (s : State) : (resetBlock s).freeCount = s.freeCount := rfl

/-! ### accept -/

@[simp] theorem accept_contexts (s : State) (i : Instr) : (accept i s).contexts = s.contexts := rfl
@[simp] theorem accept_args (s : State) (i : Instr) : (accept i s).args = s.args := rfl
@[simp] theorem accept_res0 (s : State) (i : Instr) : (accept i s).res0 = s.res0 := rfl
@[simp] theorem accept_res1 (s : State) (i : Instr) : (accept i s).res1 = s.res1 := rfl
@[simp] theorem accept_lastDraws (s : State) (i : Instr) : (accept i s).lastDraws = s.lastDraws := rfl
@[simp] theorem accept_busy (s : State) (i : Instr) : (accept i s).busy = true := rfl
@[simp] theorem accept_done (s : State) (i : Instr) : (accept i s).done = false := rfl
@[simp] theorem accept_fault (s : State) (i : Instr) : (accept i s).fault = s.fault := rfl
@[simp] theorem accept_errcode (s : State) (i : Instr) : (accept i s).errcode = s.errcode := rfl
@[simp] theorem accept_outbuf (s : State) (i : Instr) : (accept i s).outbuf = s.outbuf := rfl
@[simp] theorem accept_latch (s : State) (i : Instr) : (accept i s).latch = some ⟨i, s.args⟩ := rfl
@[simp] theorem accept_cfg (s : State) (i : Instr) : (accept i s).cfg = s.cfg := rfl
@[simp] theorem accept_entropy (s : State) (i : Instr) : (accept i s).entropy = s.entropy := rfl
@[simp] theorem accept_agenda (s : State) (i : Instr) : (accept i s).agenda = s.agenda := rfl
@[simp] theorem accept_response (s : State) (i : Instr) : (accept i s).response = s.response := rfl
@[simp] theorem accept_freeCount (s : State) (i : Instr) : (accept i s).freeCount = s.freeCount := rfl

/-! ### finish -/

@[simp] theorem finish_contexts (s : State) (r0 r1 : Word) (d : Nat) : (finish r0 r1 d s).contexts = s.contexts := rfl
@[simp] theorem finish_args (s : State) (r0 r1 : Word) (d : Nat) : (finish r0 r1 d s).args = s.args := rfl
@[simp] theorem finish_res0 (s : State) (r0 r1 : Word) (d : Nat) : (finish r0 r1 d s).res0 = r0 := rfl
@[simp] theorem finish_res1 (s : State) (r0 r1 : Word) (d : Nat) : (finish r0 r1 d s).res1 = r1 := rfl
@[simp] theorem finish_lastDraws (s : State) (r0 r1 : Word) (d : Nat) : (finish r0 r1 d s).lastDraws = BitVec.ofNat 64 d := rfl
@[simp] theorem finish_busy (s : State) (r0 r1 : Word) (d : Nat) : (finish r0 r1 d s).busy = false := rfl
@[simp] theorem finish_done (s : State) (r0 r1 : Word) (d : Nat) : (finish r0 r1 d s).done = true := rfl
@[simp] theorem finish_fault (s : State) (r0 r1 : Word) (d : Nat) : (finish r0 r1 d s).fault = s.fault := rfl
@[simp] theorem finish_errcode (s : State) (r0 r1 : Word) (d : Nat) : (finish r0 r1 d s).errcode = s.errcode := rfl
@[simp] theorem finish_outbuf (s : State) (r0 r1 : Word) (d : Nat) : (finish r0 r1 d s).outbuf = s.outbuf := rfl
@[simp] theorem finish_latch (s : State) (r0 r1 : Word) (d : Nat) : (finish r0 r1 d s).latch = none := rfl
@[simp] theorem finish_cfg (s : State) (r0 r1 : Word) (d : Nat) : (finish r0 r1 d s).cfg = s.cfg := rfl
@[simp] theorem finish_entropy (s : State) (r0 r1 : Word) (d : Nat) : (finish r0 r1 d s).entropy = s.entropy := rfl
@[simp] theorem finish_agenda (s : State) (r0 r1 : Word) (d : Nat) : (finish r0 r1 d s).agenda = s.agenda := rfl
@[simp] theorem finish_response (s : State) (r0 r1 : Word) (d : Nat) : (finish r0 r1 d s).response = s.response := rfl
@[simp] theorem finish_freeCount (s : State) (r0 r1 : Word) (d : Nat) : (finish r0 r1 d s).freeCount = s.freeCount := rfl

/-! ### respond -/

@[simp] theorem respond_contexts (s : State) (r : Response) : (respond r s).contexts = s.contexts := rfl
@[simp] theorem respond_args (s : State) (r : Response) : (respond r s).args = s.args := rfl
@[simp] theorem respond_res0 (s : State) (r : Response) : (respond r s).res0 = s.res0 := rfl
@[simp] theorem respond_res1 (s : State) (r : Response) : (respond r s).res1 = s.res1 := rfl
@[simp] theorem respond_lastDraws (s : State) (r : Response) : (respond r s).lastDraws = s.lastDraws := rfl
@[simp] theorem respond_busy (s : State) (r : Response) : (respond r s).busy = s.busy := rfl
@[simp] theorem respond_done (s : State) (r : Response) : (respond r s).done = s.done := rfl
@[simp] theorem respond_fault (s : State) (r : Response) : (respond r s).fault = s.fault := rfl
@[simp] theorem respond_errcode (s : State) (r : Response) : (respond r s).errcode = s.errcode := rfl
@[simp] theorem respond_outbuf (s : State) (r : Response) : (respond r s).outbuf = s.outbuf := rfl
@[simp] theorem respond_latch (s : State) (r : Response) : (respond r s).latch = s.latch := rfl
@[simp] theorem respond_cfg (s : State) (r : Response) : (respond r s).cfg = s.cfg := rfl
@[simp] theorem respond_entropy (s : State) (r : Response) : (respond r s).entropy = s.entropy := rfl
@[simp] theorem respond_agenda (s : State) (r : Response) : (respond r s).agenda = s.agenda := rfl
@[simp] theorem respond_response (s : State) (r : Response) : (respond r s).response = r := rfl
@[simp] theorem respond_freeCount (s : State) (r : Response) : (respond r s).freeCount = s.freeCount := rfl

/-! ### deliverEntropy -/

@[simp] theorem deliverEntropy_contexts (s : State) (v : Word) : (deliverEntropy v s).contexts = s.contexts := rfl
@[simp] theorem deliverEntropy_args (s : State) (v : Word) : (deliverEntropy v s).args = s.args := rfl
@[simp] theorem deliverEntropy_res0 (s : State) (v : Word) : (deliverEntropy v s).res0 = s.res0 := rfl
@[simp] theorem deliverEntropy_res1 (s : State) (v : Word) : (deliverEntropy v s).res1 = s.res1 := rfl
@[simp] theorem deliverEntropy_lastDraws (s : State) (v : Word) : (deliverEntropy v s).lastDraws = s.lastDraws := rfl
@[simp] theorem deliverEntropy_busy (s : State) (v : Word) : (deliverEntropy v s).busy = s.busy := rfl
@[simp] theorem deliverEntropy_done (s : State) (v : Word) : (deliverEntropy v s).done = s.done := rfl
@[simp] theorem deliverEntropy_fault (s : State) (v : Word) : (deliverEntropy v s).fault = s.fault := rfl
@[simp] theorem deliverEntropy_errcode (s : State) (v : Word) : (deliverEntropy v s).errcode = s.errcode := rfl
@[simp] theorem deliverEntropy_outbuf (s : State) (v : Word) : (deliverEntropy v s).outbuf = s.outbuf := rfl
@[simp] theorem deliverEntropy_latch (s : State) (v : Word) : (deliverEntropy v s).latch = s.latch := rfl
@[simp] theorem deliverEntropy_cfg (s : State) (v : Word) : (deliverEntropy v s).cfg = s.cfg := rfl
@[simp] theorem deliverEntropy_entropy (s : State) (v : Word) : (deliverEntropy v s).entropy = s.entropy ++ [v] := rfl
@[simp] theorem deliverEntropy_agenda (s : State) (v : Word) : (deliverEntropy v s).agenda = s.agenda := rfl
@[simp] theorem deliverEntropy_response (s : State) (v : Word) : (deliverEntropy v s).response = s.response := rfl
@[simp] theorem deliverEntropy_freeCount (s : State) (v : Word) : (deliverEntropy v s).freeCount = s.freeCount := rfl

/-! ### placeCommand -/

@[simp] theorem placeCommand_contexts (s : State) (cw : CmdWord) : (placeCommand cw s).contexts = s.contexts := rfl
@[simp] theorem placeCommand_args (s : State) (cw : CmdWord) : (placeCommand cw s).args = s.args := rfl
@[simp] theorem placeCommand_res0 (s : State) (cw : CmdWord) : (placeCommand cw s).res0 = s.res0 := rfl
@[simp] theorem placeCommand_res1 (s : State) (cw : CmdWord) : (placeCommand cw s).res1 = s.res1 := rfl
@[simp] theorem placeCommand_lastDraws (s : State) (cw : CmdWord) : (placeCommand cw s).lastDraws = s.lastDraws := rfl
@[simp] theorem placeCommand_busy (s : State) (cw : CmdWord) : (placeCommand cw s).busy = s.busy := rfl
@[simp] theorem placeCommand_done (s : State) (cw : CmdWord) : (placeCommand cw s).done = s.done := rfl
@[simp] theorem placeCommand_fault (s : State) (cw : CmdWord) : (placeCommand cw s).fault = s.fault := rfl
@[simp] theorem placeCommand_errcode (s : State) (cw : CmdWord) : (placeCommand cw s).errcode = s.errcode := rfl
@[simp] theorem placeCommand_outbuf (s : State) (cw : CmdWord) : (placeCommand cw s).outbuf = s.outbuf := rfl
@[simp] theorem placeCommand_latch (s : State) (cw : CmdWord) : (placeCommand cw s).latch = s.latch := rfl
@[simp] theorem placeCommand_cfg (s : State) (cw : CmdWord) : (placeCommand cw s).cfg = s.cfg := rfl
@[simp] theorem placeCommand_entropy (s : State) (cw : CmdWord) : (placeCommand cw s).entropy = s.entropy := rfl
@[simp] theorem placeCommand_agenda (s : State) (cw : CmdWord) : (placeCommand cw s).agenda = .command cw :: s.agenda := rfl
@[simp] theorem placeCommand_response (s : State) (cw : CmdWord) : (placeCommand cw s).response = s.response := rfl
@[simp] theorem placeCommand_freeCount (s : State) (cw : CmdWord) : (placeCommand cw s).freeCount = s.freeCount := rfl

/-! ### Contexts after an update -/

@[simp] theorem setWords_seeded_same (s : State) (c : Nat) (w : Words) : (s.setWords c w).seeded c = s.seeded c := by
  unfold State.seeded State.ctx State.setWords
  by_cases h : c < s.contexts.length <;> simp [List.getD, h, State.seeded, State.ctx]

theorem setWords_ctx_other (s : State) {c e : Nat} (w : Words) (h : e ≠ c) : (s.setWords c w).ctx e = s.ctx e := by
  simp [State.ctx, State.setWords, List.getD, List.getElem?_set_ne (Ne.symm h)]

theorem seedWith_ctx_other (s : State) {c e : Nat} (w : Words) (h : e ≠ c) : (s.seedWith c w).ctx e = s.ctx e := by
  simp [State.ctx, State.seedWith, List.getD, List.getElem?_set_ne (Ne.symm h)]

theorem seedWith_ctx_same (s : State) {c : Nat} (w : Words) (h : c < s.contexts.length) :
    (s.seedWith c w).ctx c = ⟨w, true⟩ := by
  simp [State.ctx, State.seedWith, List.getD, h]

theorem setWords_ctx_same (s : State) {c : Nat} (w : Words) (h : c < s.contexts.length) :
    (s.setWords c w).ctx c = ⟨w, s.seeded c⟩ := by
  simp [State.ctx, State.setWords, List.getD, h]

end Sys2Proof.Machine
end

