-- ==== Sys2Proof/Laws/Issue.lean ====
section
/-! SUPPORT. What the issue step and a command at the command level can do. -/

namespace Sys2Proof.Machine

/-- An issue attempt does one of three things: it is ignored, it raises a fault, or it accepts the command. -/
theorem issue_cases (cmd : Option Instr) (s : State) :
    (s.fault = true ∧ issue cmd s = s) ∨
    (∃ code, s.fault = false ∧ issueFault cmd s = some code ∧ issue cmd s = raiseFault code s) ∨
    (∃ i, cmd = some i ∧ s.fault = false ∧ issueFault cmd s = none ∧ issue cmd s = accept i s) := by
  unfold issue
  cases hf : s.fault with
  | true => exact .inl ⟨rfl, by simp⟩
  | false =>
    cases hi : issueFault cmd s with
    | some code => exact .inr (.inl ⟨code, rfl, rfl, by simp⟩)
    | none =>
      cases cmd with
      | none => unfold issueFault at hi; split at hi <;> simp at hi
      | some i => exact .inr (.inr ⟨i, rfl, rfl, rfl, by simp⟩)

/-- A command is accepted exactly when no fault is latched, the block is idle and its own checks pass. -/
theorem accepts_iff (i : Instr) (s : State) :
    accepts i s = true ↔ s.fault = false ∧ s.busy = false ∧ checkFault i s = none := by
  unfold accepts issueFault
  cases s.fault <;> cases s.busy <;> simp

/-- The checks of a legal command pass exactly when its contexts exist, the one it reads is seeded, and its operands pass. -/
theorem checkFault_none_iff (i : Instr) (s : State) :
    checkFault i s = none ↔ badContext s.cfg i = false ∧ (readsContext i = true → s.seeded i.ctx = true) ∧
      operandFault s.cfg s.args i = none := by
  unfold checkFault
  cases badContext s.cfg i <;> cases readsContext i <;> cases s.seeded i.ctx <;> simp

/-- An accepted command runs its completion on the operands it found in ARG, and stays in flight if it has none. -/
theorem runCommand_accepted {i : Instr} {s : State} (f : Args → State → Option State) (h : accepts i s = true) :
    runCommand i f s = (f s.args (accept i s)).getD (accept i s) := by
  simp [runCommand, h, completeBy]

/-- A command that is not accepted is its issue step alone. -/
theorem runCommand_rejected {i : Instr} {s : State} (f : Args → State → Option State) (h : accepts i s = false) :
    runCommand i f s = issue (some i) s := by
  simp [runCommand, h]

/-- Every arm of `exec` is its command at the command level. -/
theorem exec_eq (i : Instr) (s : State) : exec i s = .next (runCommand i (completionOf i) s) := by
  cases i <;> rfl

end Sys2Proof.Machine
end

