-- ==== Sys2Proof/Laws/Memory.lean ====
section
/-! SUPPORT. OUTBUF: reading after writing, and the canonical form kept by every operation. -/

namespace Sys2Proof.Machine

@[simp] theorem Memory.read_nil (k : Nat) : Memory.read [] k = none := rfl

theorem Memory.read_cons (a : Nat) (x : Byte) (m : Memory) (k : Nat) :
    Memory.read ((a, x) :: m) k = if a = k then some x else Memory.read m k := rfl

@[simp] theorem Memory.read_write_same (m : Memory) (k : Nat) (b : Byte) : (m.write k b).read k = some b := by
  induction m with
  | nil => simp [Memory.write, Memory.read]
  | cons p rest ih =>
    obtain ⟨a, x⟩ := p
    simp only [Memory.write]
    split
    · simp [Memory.read]
    · split
      · simp [Memory.read]
      · rename_i h1 h2
        simp [Memory.read, Ne.symm h2, ih]

theorem Memory.read_write_other (m : Memory) {j k : Nat} (b : Byte) (h : j ≠ k) :
    (m.write k b).read j = m.read j := by
  induction m with
  | nil => simp [Memory.write, Memory.read, Ne.symm h]
  | cons p rest ih =>
    obtain ⟨a, x⟩ := p
    simp only [Memory.write]
    split
    · simp [Memory.read, Ne.symm h]
    · split
      · rename_i h1 h2
        subst h2
        simp [Memory.read, Ne.symm h]
      · simp [Memory.read, ih]

theorem Memory.mem_write {m : Memory} {k : Nat} {b : Byte} {p : Host.Cell} (h : p ∈ m.write k b) :
    p = (k, b) ∨ p ∈ m := by
  induction m with
  | nil => simpa [Memory.write] using h
  | cons q rest ih =>
    obtain ⟨a, x⟩ := q
    simp only [Memory.write] at h
    split at h
    · simpa using h
    · split at h
      · rcases List.mem_cons.1 h with h | h
        · exact .inl h
        · exact .inr (List.mem_cons_of_mem _ h)
      · rcases List.mem_cons.1 h with h | h
        · exact .inr (h ▸ List.mem_cons_self)
        · exact (ih h).imp id (List.mem_cons_of_mem _)

/-- A write keeps the canonical form. -/
theorem Memory.write_wf {m : Memory} (k : Nat) (b : Byte) (h : m.wf) : (m.write k b).wf := by
  induction m with
  | nil => simp [Memory.wf, Memory.write]
  | cons q rest ih =>
    obtain ⟨a, x⟩ := q
    obtain ⟨hq, hrest⟩ := List.pairwise_cons.1 h
    simp only [Memory.write]
    split
    · rename_i hk
      refine List.pairwise_cons.2 ⟨fun p hp => ?_, h⟩
      rcases List.mem_cons.1 hp with rfl | hp
      · exact hk
      · exact Nat.lt_trans hk (hq p hp)
    · split
      · rename_i hk
        subst hk
        exact List.pairwise_cons.2 ⟨hq, hrest⟩
      · refine List.pairwise_cons.2 ⟨fun p hp => ?_, ih hrest⟩
        rcases Memory.mem_write hp with rfl | hp
        · show a < k; omega
        · exact hq p hp

/-- A write inside OUTBUF stays inside OUTBUF. -/
theorem Memory.write_within {m : Memory} {n k : Nat} (b : Byte) (h : m.within n) (hk : k < n) :
    (m.write k b).within n := by
  intro p hp
  rcases Memory.mem_write hp with rfl | hp
  · exact hk
  · exact h p hp

/-- The empty buffer of reset is canonical. -/
theorem Memory.nil_wf : Memory.wf [] := List.Pairwise.nil

/-- What a FILL's inner loop preserves: any property of OUTBUF that each `BufWrite` below `len` preserves. -/
theorem fillChunk_induction {P : Memory → Prop} (len k : Nat) (x : Word) (m : Memory)
    (step : ∀ m j b, j < len → P m → P (m.write j b)) (h : P m) : P (fillChunk len k x m) := by
  unfold fillChunk
  induction List.range 8 generalizing m with
  | nil => exact h
  | cons j rest ih =>
    rw [List.foldl_cons]
    apply ih
    split
    · rename_i hj
      exact step _ _ _ hj h
    · exact h

/-- What a whole FILL preserves. -/
theorem fillLoop_induction {P : Memory → Prop} (len n k : Nat) (g : Words) (m : Memory)
    (step : ∀ m j b, j < len → P m → P (m.write j b)) (h : P m) : P (fillLoop len n k g m).2 := by
  induction n generalizing k g m with
  | zero => exact h
  | succ n ih => exact ih _ _ _ (fillChunk_induction len k _ m step h)

/-- A FILL keeps the canonical form. -/
theorem fillLoop_wf (len n k : Nat) (g : Words) {m : Memory} (h : m.wf) : (fillLoop len n k g m).2.wf :=
  fillLoop_induction len n k g m (fun _ _ _ _ hm => Memory.write_wf _ _ hm) h

/-- A FILL of at most `size` bytes stays inside OUTBUF. -/
theorem fillLoop_within {len size : Nat} (n k : Nat) (g : Words) {m : Memory} (hl : len ≤ size) (h : m.within size) :
    (fillLoop len n k g m).2.within size :=
  fillLoop_induction (P := fun m' => m'.within size) len n k g m
    (fun _ _ b hj hm => Memory.write_within b hm (Nat.lt_of_lt_of_le hj hl)) h

/-- A FILL of `len` bytes leaves the bytes at and above `len` as they were. -/
theorem fillLoop_read_above {len j : Nat} (n k : Nat) (g : Words) (m : Memory) (hj : len ≤ j) :
    (fillLoop len n k g m).2.read j = m.read j :=
  fillLoop_induction (P := fun m' => m'.read j = m.read j) len n k g m
    (fun _ i b hi hm => by rw [Memory.read_write_other _ b (by omega), hm]) rfl

end Sys2Proof.Machine
end

