-- ==== Sys2Proof/Laws/Complete.lean ====
section
/-! SUPPORT. What a completion step can do: one lemma per shared completion, and the shape all of them have. -/

namespace Sys2Proof.Machine

/-- The context a command writes: DST for CLONE, CTX for every other command. -/
def target (i : Instr) : Nat := i.dst?.getD i.ctx

/-- The shape of every completion step: it ends the command with some results and a draw count, replaces the context the
command writes, and may change OUTBUF (FILL) and take words from the entropy input (SEED.ENT). -/
structure Completes (i : Instr) (s t : State) : Prop where
  shape : ∃ (g : GenCtx) (r0 r1 : Word) (d : Nat) (m : Memory) (e : List Word),
    t = finish r0 r1 d { s with contexts := s.contexts.set (target i) g, outbuf := m, entropy := e } ∧
      (g.seeded = true ∨ g.seeded = s.seeded (target i)) ∧
      ((∀ c, i ≠ .fill c) → m = s.outbuf) ∧ ((∀ c, i ≠ .seedEnt c) → e = s.entropy)

theorem completeDraw_eq (c : Nat) (f : Word → Word) (s : State) :
    completeDraw c f s = finish (f (drawOutput (s.words c))) 0#64 1 (s.setWords c (drawNext (s.words c))) := rfl

theorem completeDraw_completes {i : Instr} {c : Nat} {f : Word → Word} {s : State} (h : target i = c) :
    Completes i s (completeDraw c f s) := by
  subst h
  exact ⟨⟨_, _, _, _, _, _, rfl, .inr rfl, fun _ => rfl, fun _ => rfl⟩⟩

theorem completeSeed_completes {i : Instr} {c : Nat} {w : Words} {s : State} (h : target i = c) :
    Completes i s (completeSeed c w s) := by
  subst h
  exact ⟨⟨_, _, _, _, _, _, rfl, .inl rfl, fun _ => rfl, fun _ => rfl⟩⟩

theorem completeRange_completes {i : Instr} {t : IntTy} {c : Nat} {lx ux : Bool} {a : Args} {s u : State}
    (h : target i = c) (hu : completeRange t c lx ux a s = some u) : Completes i s u := by
  subst h
  unfold completeRange at hu
  split at hu
  · cases hu
  · split at hu
    · cases hu
      exact completeDraw_completes rfl
    · split at hu
      · cases hu
      · cases hu
        exact ⟨⟨_, _, _, _, _, _, rfl, .inr rfl, fun _ => rfl, fun _ => rfl⟩⟩

/-- Every completion step has the shape `Completes`. -/
theorem completionOf_completes {i : Instr} {a : Args} {s t : State} (h : completionOf i a s = some t) :
    Completes i s t := by
  cases i
  case seedEnt c =>
    simp only [completionOf, completeSeedEnt] at h
    split at h
    · cases h
    · cases h
      exact ⟨⟨_, _, _, _, _, _, rfl, .inl rfl, fun _ => rfl, fun hc => absurd rfl (hc c)⟩⟩
  case fill c =>
    cases h
    exact ⟨⟨_, _, _, _, _, _, rfl, .inr rfl, fun hc => absurd rfl (hc c), fun _ => rfl⟩⟩
  case seedU64 => cases h; exact completeSeed_completes rfl
  case seedBytes => cases h; exact completeSeed_completes rfl
  case clone => cases h; exact completeSeed_completes rfl
  case jump => cases h; exact ⟨⟨_, _, _, _, _, _, rfl, .inr rfl, fun _ => rfl, fun _ => rfl⟩⟩
  case ljump => cases h; exact ⟨⟨_, _, _, _, _, _, rfl, .inr rfl, fun _ => rfl, fun _ => rfl⟩⟩
  case randU128 => cases h; exact ⟨⟨_, _, _, _, _, _, rfl, .inr rfl, fun _ => rfl, fun _ => rfl⟩⟩
  case randI128 => cases h; exact ⟨⟨_, _, _, _, _, _, rfl, .inr rfl, fun _ => rfl, fun _ => rfl⟩⟩
  case rangeU8 => exact completeRange_completes rfl h
  case rangeU16 => exact completeRange_completes rfl h
  case rangeU32 => exact completeRange_completes rfl h
  case rangeU64 => exact completeRange_completes rfl h
  case rangeI8 => exact completeRange_completes rfl h
  case rangeI16 => exact completeRange_completes rfl h
  case rangeI32 => exact completeRange_completes rfl h
  case rangeI64 => exact completeRange_completes rfl h
  all_goals cases h; exact completeDraw_completes rfl

/-- The completion agent's turn: nothing, or the completion of the command in flight. -/
theorem completionTurn_cases (s : State) :
    completionTurn s = s ∨
      ∃ l t, s.latch = some l ∧ completionOf l.cmd l.args s = some t ∧ completionTurn s = t := by
  cases hl : s.latch with
  | none => exact .inl (by simp [completionTurn, hl])
  | some l =>
    cases ht : completionOf l.cmd l.args s with
    | none => exact .inl (by simp [completionTurn, completeBy, hl, ht])
    | some t => exact .inr ⟨l, t, rfl, ht, by simp [completionTurn, completeBy, hl, ht]⟩

end Sys2Proof.Machine
end

