-- ==== Sys2Proof/Laws/PerInstr.lean ====
section
/-! SUPPORT. Facts about every command as syntax, one lemma per constructor. -/

namespace Sys2Proof.Laws.RowSelected

/-- The word of a command selects its row of the opcode map (spec/30_encoding.md R77). -/
def Statement (i : Instr) : Prop := i.row.Selects (encode i)

theorem seedU64 (c : Nat) : Statement (.seedU64 c) := by
  have h : ∀ x : BitVec 4, (0#8 ++ 0#4 ++ 0#2 ++ 0#1 ++ 0#1 ++ 0x0#4 ++ x ++ 0x01#8 : CmdWord) &&& 0xFFFFF0FF#32 = 0x00000001#32 := by decide
  exact h (BitVec.ofNat 4 c)

theorem seedBytes (c : Nat) : Statement (.seedBytes c) := by
  have h : ∀ x : BitVec 4, (0#8 ++ 0#4 ++ 0#2 ++ 0#1 ++ 0#1 ++ 0x0#4 ++ x ++ 0x02#8 : CmdWord) &&& 0xFFFFF0FF#32 = 0x00000002#32 := by decide
  exact h (BitVec.ofNat 4 c)

theorem seedEnt (c : Nat) : Statement (.seedEnt c) := by
  have h : ∀ x : BitVec 4, (0#8 ++ 0#4 ++ 0#2 ++ 0#1 ++ 0#1 ++ 0x0#4 ++ x ++ 0x03#8 : CmdWord) &&& 0xFFFFF0FF#32 = 0x00000003#32 := by decide
  exact h (BitVec.ofNat 4 c)

theorem clone (c d : Nat) : Statement (.clone c d) := by
  have h : ∀ x y : BitVec 4, (0#8 ++ y ++ 0#2 ++ 0#1 ++ 0#1 ++ 0x0#4 ++ x ++ 0x04#8 : CmdWord) &&& 0xFF0FF0FF#32 = 0x00000004#32 := by decide
  exact h (BitVec.ofNat 4 c) (BitVec.ofNat 4 d)

theorem next (c : Nat) : Statement (.next c) := by
  have h : ∀ x : BitVec 4, (0#8 ++ 0#4 ++ 0#2 ++ 0#1 ++ 0#1 ++ 0x0#4 ++ x ++ 0x08#8 : CmdWord) &&& 0xFFFFF0FF#32 = 0x00000008#32 := by decide
  exact h (BitVec.ofNat 4 c)

theorem jump (c : Nat) : Statement (.jump c) := by
  have h : ∀ x : BitVec 4, (0#8 ++ 0#4 ++ 0#2 ++ 0#1 ++ 0#1 ++ 0x0#4 ++ x ++ 0x09#8 : CmdWord) &&& 0xFFFFF0FF#32 = 0x00000009#32 := by decide
  exact h (BitVec.ofNat 4 c)

theorem ljump (c : Nat) : Statement (.ljump c) := by
  have h : ∀ x : BitVec 4, (0#8 ++ 0#4 ++ 0#2 ++ 0#1 ++ 0#1 ++ 0x0#4 ++ x ++ 0x0A#8 : CmdWord) &&& 0xFFFFF0FF#32 = 0x0000000A#32 := by decide
  exact h (BitVec.ofNat 4 c)

theorem randU8 (c : Nat) : Statement (.randU8 c) := by
  have h : ∀ x : BitVec 4, (0#8 ++ 0#4 ++ 0#2 ++ 0#1 ++ 0#1 ++ 0x0#4 ++ x ++ 0x10#8 : CmdWord) &&& 0xFFFFF0FF#32 = 0x00000010#32 := by decide
  exact h (BitVec.ofNat 4 c)

theorem randU16 (c : Nat) : Statement (.randU16 c) := by
  have h : ∀ x : BitVec 4, (0#8 ++ 0#4 ++ 0#2 ++ 0#1 ++ 0#1 ++ 0x1#4 ++ x ++ 0x10#8 : CmdWord) &&& 0xFFFFF0FF#32 = 0x00001010#32 := by decide
  exact h (BitVec.ofNat 4 c)

theorem randU32 (c : Nat) : Statement (.randU32 c) := by
  have h : ∀ x : BitVec 4, (0#8 ++ 0#4 ++ 0#2 ++ 0#1 ++ 0#1 ++ 0x2#4 ++ x ++ 0x10#8 : CmdWord) &&& 0xFFFFF0FF#32 = 0x00002010#32 := by decide
  exact h (BitVec.ofNat 4 c)

theorem randU64 (c : Nat) : Statement (.randU64 c) := by
  have h : ∀ x : BitVec 4, (0#8 ++ 0#4 ++ 0#2 ++ 0#1 ++ 0#1 ++ 0x3#4 ++ x ++ 0x10#8 : CmdWord) &&& 0xFFFFF0FF#32 = 0x00003010#32 := by decide
  exact h (BitVec.ofNat 4 c)

theorem randU128 (c : Nat) : Statement (.randU128 c) := by
  have h : ∀ x : BitVec 4, (0#8 ++ 0#4 ++ 0#2 ++ 0#1 ++ 0#1 ++ 0x4#4 ++ x ++ 0x10#8 : CmdWord) &&& 0xFFFFF0FF#32 = 0x00004010#32 := by decide
  exact h (BitVec.ofNat 4 c)

theorem randI8 (c : Nat) : Statement (.randI8 c) := by
  have h : ∀ x : BitVec 4, (0#8 ++ 0#4 ++ 0#2 ++ 0#1 ++ 0#1 ++ 0x8#4 ++ x ++ 0x10#8 : CmdWord) &&& 0xFFFFF0FF#32 = 0x00008010#32 := by decide
  exact h (BitVec.ofNat 4 c)

theorem randI16 (c : Nat) : Statement (.randI16 c) := by
  have h : ∀ x : BitVec 4, (0#8 ++ 0#4 ++ 0#2 ++ 0#1 ++ 0#1 ++ 0x9#4 ++ x ++ 0x10#8 : CmdWord) &&& 0xFFFFF0FF#32 = 0x00009010#32 := by decide
  exact h (BitVec.ofNat 4 c)

theorem randI32 (c : Nat) : Statement (.randI32 c) := by
  have h : ∀ x : BitVec 4, (0#8 ++ 0#4 ++ 0#2 ++ 0#1 ++ 0#1 ++ 0xA#4 ++ x ++ 0x10#8 : CmdWord) &&& 0xFFFFF0FF#32 = 0x0000A010#32 := by decide
  exact h (BitVec.ofNat 4 c)

theorem randI64 (c : Nat) : Statement (.randI64 c) := by
  have h : ∀ x : BitVec 4, (0#8 ++ 0#4 ++ 0#2 ++ 0#1 ++ 0#1 ++ 0xB#4 ++ x ++ 0x10#8 : CmdWord) &&& 0xFFFFF0FF#32 = 0x0000B010#32 := by decide
  exact h (BitVec.ofNat 4 c)

theorem randI128 (c : Nat) : Statement (.randI128 c) := by
  have h : ∀ x : BitVec 4, (0#8 ++ 0#4 ++ 0#2 ++ 0#1 ++ 0#1 ++ 0xC#4 ++ x ++ 0x10#8 : CmdWord) &&& 0xFFFFF0FF#32 = 0x0000C010#32 := by decide
  exact h (BitVec.ofNat 4 c)

theorem randBool (c : Nat) : Statement (.randBool c) := by
  have h : ∀ x : BitVec 4, (0#8 ++ 0#4 ++ 0#2 ++ 0#1 ++ 0#1 ++ 0x0#4 ++ x ++ 0x11#8 : CmdWord) &&& 0xFFFFF0FF#32 = 0x00000011#32 := by decide
  exact h (BitVec.ofNat 4 c)

theorem randF32 (c : Nat) : Statement (.randF32 c) := by
  have h : ∀ x : BitVec 4, (0#8 ++ 0#4 ++ 0#2 ++ 0#1 ++ 0#1 ++ 0x2#4 ++ x ++ 0x12#8 : CmdWord) &&& 0xFFFFF0FF#32 = 0x00002012#32 := by decide
  exact h (BitVec.ofNat 4 c)

theorem randF64 (c : Nat) : Statement (.randF64 c) := by
  have h : ∀ x : BitVec 4, (0#8 ++ 0#4 ++ 0#2 ++ 0#1 ++ 0#1 ++ 0x3#4 ++ x ++ 0x12#8 : CmdWord) &&& 0xFFFFF0FF#32 = 0x00003012#32 := by decide
  exact h (BitVec.ofNat 4 c)

theorem rangeU8 (c : Nat) (lx ux : Bool) : Statement (.rangeU8 c lx ux) := by
  have h : ∀ (x : BitVec 4) (u l : Bool),
      (0#8 ++ 0#4 ++ 0#2 ++ BitVec.ofBool u ++ BitVec.ofBool l ++ 0x0#4 ++ x ++ 0x18#8 : CmdWord) &&& 0xFFFCF0FF#32 = 0x00000018#32 := by decide
  exact h (BitVec.ofNat 4 c) ux lx

theorem rangeU16 (c : Nat) (lx ux : Bool) : Statement (.rangeU16 c lx ux) := by
  have h : ∀ (x : BitVec 4) (u l : Bool),
      (0#8 ++ 0#4 ++ 0#2 ++ BitVec.ofBool u ++ BitVec.ofBool l ++ 0x1#4 ++ x ++ 0x18#8 : CmdWord) &&& 0xFFFCF0FF#32 = 0x00001018#32 := by decide
  exact h (BitVec.ofNat 4 c) ux lx

theorem rangeU32 (c : Nat) (lx ux : Bool) : Statement (.rangeU32 c lx ux) := by
  have h : ∀ (x : BitVec 4) (u l : Bool),
      (0#8 ++ 0#4 ++ 0#2 ++ BitVec.ofBool u ++ BitVec.ofBool l ++ 0x2#4 ++ x ++ 0x18#8 : CmdWord) &&& 0xFFFCF0FF#32 = 0x00002018#32 := by decide
  exact h (BitVec.ofNat 4 c) ux lx

theorem rangeU64 (c : Nat) (lx ux : Bool) : Statement (.rangeU64 c lx ux) := by
  have h : ∀ (x : BitVec 4) (u l : Bool),
      (0#8 ++ 0#4 ++ 0#2 ++ BitVec.ofBool u ++ BitVec.ofBool l ++ 0x3#4 ++ x ++ 0x18#8 : CmdWord) &&& 0xFFFCF0FF#32 = 0x00003018#32 := by decide
  exact h (BitVec.ofNat 4 c) ux lx

theorem rangeI8 (c : Nat) (lx ux : Bool) : Statement (.rangeI8 c lx ux) := by
  have h : ∀ (x : BitVec 4) (u l : Bool),
      (0#8 ++ 0#4 ++ 0#2 ++ BitVec.ofBool u ++ BitVec.ofBool l ++ 0x8#4 ++ x ++ 0x18#8 : CmdWord) &&& 0xFFFCF0FF#32 = 0x00008018#32 := by decide
  exact h (BitVec.ofNat 4 c) ux lx

theorem rangeI16 (c : Nat) (lx ux : Bool) : Statement (.rangeI16 c lx ux) := by
  have h : ∀ (x : BitVec 4) (u l : Bool),
      (0#8 ++ 0#4 ++ 0#2 ++ BitVec.ofBool u ++ BitVec.ofBool l ++ 0x9#4 ++ x ++ 0x18#8 : CmdWord) &&& 0xFFFCF0FF#32 = 0x00009018#32 := by decide
  exact h (BitVec.ofNat 4 c) ux lx

theorem rangeI32 (c : Nat) (lx ux : Bool) : Statement (.rangeI32 c lx ux) := by
  have h : ∀ (x : BitVec 4) (u l : Bool),
      (0#8 ++ 0#4 ++ 0#2 ++ BitVec.ofBool u ++ BitVec.ofBool l ++ 0xA#4 ++ x ++ 0x18#8 : CmdWord) &&& 0xFFFCF0FF#32 = 0x0000A018#32 := by decide
  exact h (BitVec.ofNat 4 c) ux lx

theorem rangeI64 (c : Nat) (lx ux : Bool) : Statement (.rangeI64 c lx ux) := by
  have h : ∀ (x : BitVec 4) (u l : Bool),
      (0#8 ++ 0#4 ++ 0#2 ++ BitVec.ofBool u ++ BitVec.ofBool l ++ 0xB#4 ++ x ++ 0x18#8 : CmdWord) &&& 0xFFFCF0FF#32 = 0x0000B018#32 := by decide
  exact h (BitVec.ofNat 4 c) ux lx

theorem rangeF32 (c : Nat) : Statement (.rangeF32 c) := by
  have h : ∀ x : BitVec 4, (0#8 ++ 0#4 ++ 0#2 ++ 0#1 ++ 0#1 ++ 0x2#4 ++ x ++ 0x19#8 : CmdWord) &&& 0xFFFFF0FF#32 = 0x00002019#32 := by decide
  exact h (BitVec.ofNat 4 c)

theorem rangeF64 (c : Nat) : Statement (.rangeF64 c) := by
  have h : ∀ x : BitVec 4, (0#8 ++ 0#4 ++ 0#2 ++ 0#1 ++ 0#1 ++ 0x3#4 ++ x ++ 0x19#8 : CmdWord) &&& 0xFFFFF0FF#32 = 0x00003019#32 := by decide
  exact h (BitVec.ofNat 4 c)

theorem fill (c : Nat) : Statement (.fill c) := by
  have h : ∀ x : BitVec 4, (0#8 ++ 0#4 ++ 0#2 ++ 0#1 ++ 0#1 ++ 0x0#4 ++ x ++ 0x20#8 : CmdWord) &&& 0xFFFFF0FF#32 = 0x00000020#32 := by decide
  exact h (BitVec.ofNat 4 c)

end Sys2Proof.Laws.RowSelected
end

