-- ==== Sys2Proof/Machine/HostAsm.lean ====
section
/-! DEFINITION. The host's assembly (spec/30_encoding.md R82, R83): statements, pseudo-instructions and the host
accesses they stand for. It is host software; the block sees only the accesses. -/

namespace Sys2Proof.Machine

/-- PTR_BITS, the host's pointer width (spec/00_scope.md R7). -/
inductive PtrBits where
  | ptr32
  | ptr64
deriving DecidableEq, Repr

/-- A statement of R82. -/
inductive HostStmt where
  /-- A command statement. -/
  | cmd (i : Instr)
  /-- `set aI, value`. -/
  | set (i : Nat) (v : Word)
  /-- `wait`. -/
  | wait
  /-- `get rI`. -/
  | get (i : Nat)
  /-- `getd`. -/
  | getd
  /-- `stat`. -/
  | stat
  /-- `rdbuf k, n`. -/
  | rdbuf (k n : Nat)
  /-- `reset`. -/
  | reset
deriving DecidableEq, Repr

/-- A pseudo-instruction of R83. -/
inductive PseudoStmt where
  | randUsize (c : Nat)
  | randIsize (c : Nat)
  | rangeUsize (c : Nat) (lx ux : Bool)
  | rangeIsize (c : Nat) (lx ux : Bool)
  | rangeExcl (t : IntTy) (c : Nat)
  | seedw (c : Nat) (v : Word)
  | split (d c k : Nat)
  | lsplit (d c k : Nat)
  | cmdw (i : Instr)
deriving DecidableEq, Repr

/-- The type code the host takes for a pointer-sized type (R83; spec/92_eei_decisions.md D9). -/
def PtrBits.intTy : PtrBits → Bool → IntTy
  | .ptr32, false => .u32
  | .ptr64, false => .u64
  | .ptr32, true => .i32
  | .ptr64, true => .i64

/-- k times a command and `wait`. -/
def waitEach : Nat → Instr → List HostStmt
  | 0, _ => []
  | k + 1, i => .cmd i :: .wait :: waitEach k i

/-- The expansion of a pseudo-instruction (R83). -/
def PseudoStmt.expand (p : PtrBits) : PseudoStmt → List HostStmt
  | .randUsize c => [.cmd ((p.intTy false).randInstr c)]
  | .randIsize c => [.cmd ((p.intTy true).randInstr c)]
  | .rangeUsize c lx ux => [.cmd ((p.intTy false).rangeInstr c lx ux)]
  | .rangeIsize c lx ux => [.cmd ((p.intTy true).rangeInstr c lx ux)]
  | .rangeExcl t c => [.cmd (t.rangeInstr c false true)]
  | .seedw c v => [.set 0 v, .cmd (.seedU64 c), .wait]
  | .split d c k => .cmd (.clone c d) :: .wait :: waitEach k (.jump d)
  | .lsplit d c k => .cmd (.clone c d) :: .wait :: waitEach k (.ljump d)
  | .cmdw i => [.cmd i, .wait]

/-- The moves of a statement on a block at `base` (R82). `wait` is a loop of STATUS reads; here it is one of its runs,
in which `polls` reads find BUSY = 1 before the completion step falls and one read finds BUSY = 0. -/
def HostStmt.events (base polls : Nat) : HostStmt → List Event
  | .cmd i => [.write (base + 0x018) 8 ((encode i).setWidth 64)]
  | .set i v => [.write (base + 0x020 + 8 * i) 8 v]
  | .wait => List.replicate polls (.read (base + 0x010) 8) ++ [.complete, .read (base + 0x010) 8]
  | .get i => [.read (base + 0x040 + 8 * i) 8]
  | .getd => [.read (base + 0x050) 8]
  | .stat => [.read (base + 0x010) 8]
  | .rdbuf k n => [.read (base + 0x800 + k) n]
  | .reset => [.write (base + 0x008) 8 1#64]

end Sys2Proof.Machine
end

