-- ==== Sys2Proof/Laws/Step.lean ====
section
/-! SUPPORT. What a step can do, said once. -/

namespace Sys2Proof.Machine

/-- What the block does in one move from `s` to `t`. -/
inductive BlockMove (s t : State) : Prop where
  /-- A bus error, a read, an ignored write, an idle turn: only the response and the free-byte counter may change. -/
  | quiet (r : Response) (n : Nat) (h : t = { respond r s with freeCount := n })
  /-- A hard or a soft reset. -/
  | reset (r : Response) (h : t = respond r (resetBlock s))
  /-- A write of an ARG register. -/
  | arg (r : Response) (i : Nat) (v : Word) (h : t = respond r { s with args := s.args.set i v })
  /-- An issue attempt. -/
  | issue (r : Response) (cmd : Option Instr) (h : t = respond r (issue cmd s))
  /-- A command at the command level. -/
  | command (i : Instr) (h : t = runCommand i (completionOf i) s)
  /-- The completion agent's turn. -/
  | complete (h : t = completionTurn s)
  /-- A word delivered at the entropy input. -/
  | entropy (v : Word) (h : t = deliverEntropy v s)

@[simp] theorem respond_own (s : State) : respond s.response s = s := rfl

@[simp] theorem issue_response (cmd : Option Instr) (s : State) : (issue cmd s).response = s.response := by
  rcases issue_cases cmd s with ⟨_, h⟩ | ⟨_, _, _, h⟩ | ⟨_, _, _, _, h⟩ <;> rw [h] <;> rfl

theorem memRead_move (off n : Nat) (s : State) : BlockMove s (memRead off n s) := by
  unfold memRead
  split
  · exact .quiet .busError s.freeCount rfl
  · split
    · exact .quiet (.data (registerRead off s)) s.freeCount rfl
    · split
      · exact .quiet _ _ rfl
      · exact .quiet (.data 0#64) s.freeCount rfl

theorem memWrite_move (off n : Nat) (v : Word) (s : State) : BlockMove s (memWrite off n v s) := by
  unfold memWrite writeEffect
  split
  · exact .quiet .busError s.freeCount rfl
  · split
    · split
      · exact .reset .ack rfl
      · exact .quiet .ack s.freeCount rfl
    · split
      · exact .issue .ack _ rfl
      · split
        · exact .arg .ack _ _ rfl
        · exact .quiet .ack s.freeCount rfl

theorem commandWord_move {w : CmdWord} {s t : State} (h : commandWord w s = .next t) : BlockMove s t := by
  unfold commandWord at h
  split at h
  · rw [exec_eq] at h
    cases h
    exact .command _ rfl
  · cases h
    refine .issue s.response none ?_
    rw [← issue_response none s, respond_own]

/-- A move that answers a next state is one of the moves of the block. -/
theorem move_cases {e : Event} {s t : State} (h : move e s = .next t) : BlockMove s t := by
  cases e with
  | read addr n =>
    simp only [move, busRead] at h
    split at h
    · cases h
    · cases h; exact memRead_move _ _ _
  | write addr n v =>
    simp only [move, busWrite] at h
    split at h
    · cases h
    · cases h; exact memWrite_move _ _ _ _
  | command w => exact commandWord_move h
  | complete => cases h; exact .complete rfl
  | entropy v => cases h; exact .entropy v rfl
  | hardReset => cases h; exact .reset s.response rfl

/-- A step is one move of the block on the state with that move taken off the agenda. -/
theorem step_cases {s t : State} (h : step s = .next t) : BlockMove { s with agenda := s.agenda.tail } t := by
  unfold step at h
  split at h
  · rename_i ha
    cases h
    have hs : s = { s with agenda := s.agenda.tail } := by cases s; simp_all
    exact hs ▸ .complete rfl
  · rename_i e rest ha
    simpa [ha] using move_cases h

/-- Only an access outside the window stops a step. -/
theorem step_fault {s : State} {r : Fault} (h : step s = .fault r) :
    r = .outsideWindow ∧ ∃ e rest, s.agenda = e :: rest ∧
      ∃ addr, (∃ n, e = .read addr n) ∨ (∃ n v, e = .write addr n v) := by
  unfold step at h
  split at h
  · cases h
  · rename_i e rest ha
    refine ⟨by cases r; rfl, e, rest, ha, ?_⟩
    cases e with
    | read addr n => exact ⟨addr, .inl ⟨n, rfl⟩⟩
    | write addr n v => exact ⟨addr, .inr ⟨n, v, rfl⟩⟩
    | command w =>
      simp only [move, commandWord] at h
      split at h
      · rw [exec_eq] at h; cases h
      · cases h
    | complete => cases h
    | entropy v => cases h
    | hardReset => cases h

end Sys2Proof.Machine
end

