-- ==== Sys2Proof/Tests/Slice0.lean ====
section
/-! SUPPORT. The model's own tests. The expected values are those of spec/95_test_vectors.md (named V-...) or worked by
hand from the rules; the witnesses show that the hypotheses of the statements can be met. -/

-- Elaborating these kernel evaluations one after another keeps the number of threads small.
set_option Elab.async false

namespace Sys2Proof.Tests

open Sys2Proof Sys2Proof.Machine

/-! ### WellFormed refuses what no word can hold -/

theorem smoke_ctx_does_not_fit : ¬ WellFormed (.next 16) := by decide

theorem smoke_dst_does_not_fit : ¬ WellFormed (.clone 0 16) := by decide

theorem smoke_greatest_fields_fit : WellFormed (.clone 15 15) := by decide

/-! ### Each row decodes: the words are the encodings of spec/30_encoding.md R77 with the free bits filled in -/

theorem test_decode_seedU64 : decode 0b00000000000000000000010100000001#32 = .ok (.seedU64 5) := by decide

theorem test_decode_seedBytes : decode 0b00000000000000000000101000000010#32 = .ok (.seedBytes 10) := by decide

theorem test_decode_seedEnt : decode 0b00000000000000000000001100000011#32 = .ok (.seedEnt 3) := by decide

theorem test_decode_clone : decode 0b00000000011000000000100100000100#32 = .ok (.clone 9 6) := by decide

theorem test_decode_next : decode 0b00000000000000000000111100001000#32 = .ok (.next 15) := by decide

theorem test_decode_jump : decode 0b00000000000000000000000000001001#32 = .ok (.jump 0) := by decide

theorem test_decode_ljump : decode 0b00000000000000000000000100001010#32 = .ok (.ljump 1) := by decide

theorem test_decode_randU8 : decode 0b00000000000000000000010100010000#32 = .ok (.randU8 5) := by decide

theorem test_decode_randU16 : decode 0b00000000000000000001101000010000#32 = .ok (.randU16 10) := by decide

theorem test_decode_randU32 : decode 0b00000000000000000010001100010000#32 = .ok (.randU32 3) := by decide

theorem test_decode_randU64 : decode 0b00000000000000000011100100010000#32 = .ok (.randU64 9) := by decide

theorem test_decode_randU128 : decode 0b00000000000000000100111100010000#32 = .ok (.randU128 15) := by decide

theorem test_decode_randI8 : decode 0b00000000000000001000000000010000#32 = .ok (.randI8 0) := by decide

theorem test_decode_randI16 : decode 0b00000000000000001001000100010000#32 = .ok (.randI16 1) := by decide

theorem test_decode_randI32 : decode 0b00000000000000001010010100010000#32 = .ok (.randI32 5) := by decide

theorem test_decode_randI64 : decode 0b00000000000000001011101000010000#32 = .ok (.randI64 10) := by decide

theorem test_decode_randI128 : decode 0b00000000000000001100001100010000#32 = .ok (.randI128 3) := by decide

theorem test_decode_randBool : decode 0b00000000000000000000100100010001#32 = .ok (.randBool 9) := by decide

theorem test_decode_randF32 : decode 0b00000000000000000010111100010010#32 = .ok (.randF32 15) := by decide

theorem test_decode_randF64 : decode 0b00000000000000000011000000010010#32 = .ok (.randF64 0) := by decide

theorem test_decode_rangeU8 : decode 0b00000000000000110000000100011000#32 = .ok (.rangeU8 1 true true) := by decide

theorem test_decode_rangeU16 : decode 0b00000000000000010001010100011000#32 = .ok (.rangeU16 5 true false) := by decide

theorem test_decode_rangeU32 : decode 0b00000000000000100010101000011000#32 = .ok (.rangeU32 10 false true) := by decide

theorem test_decode_rangeU64 : decode 0b00000000000000110011001100011000#32 = .ok (.rangeU64 3 true true) := by decide

theorem test_decode_rangeI8 : decode 0b00000000000000011000100100011000#32 = .ok (.rangeI8 9 true false) := by decide

theorem test_decode_rangeI16 : decode 0b00000000000000101001111100011000#32 = .ok (.rangeI16 15 false true) := by decide

theorem test_decode_rangeI32 : decode 0b00000000000000111010000000011000#32 = .ok (.rangeI32 0 true true) := by decide

theorem test_decode_rangeI64 : decode 0b00000000000000011011000100011000#32 = .ok (.rangeI64 1 true false) := by decide

theorem test_decode_rangeF32 : decode 0b00000000000000000010010100011001#32 = .ok (.rangeF32 5) := by decide

theorem test_decode_rangeF64 : decode 0b00000000000000000011101000011001#32 = .ok (.rangeF64 10) := by decide

theorem test_decode_fill : decode 0b00000000000000000000001100100000#32 = .ok (.fill 3) := by decide

theorem test_encode_clone : encode (.clone 9 6) = 0b00000000011000000000100100000100#32 := by decide

theorem test_encode_range : encode (.rangeI16 3 false true) = 0b00000000000000101001001100011000#32 := by decide

theorem test_reject_E1_zero_word : decode 0x00000000#32 = .error .reservedOpcode := by decide

theorem test_reject_E2_bit_18 : decode 0x00040008#32 = .error .reservedBits := by decide

theorem test_reject_E3_range_u128 : decode 0x00004018#32 = .error .illegalType := by decide

theorem test_reject_E4_float_i32 : decode 0x0000A012#32 = .error .illegalType := by decide

theorem test_reject_E5_bit_24 : decode 0x01000008#32 = .error .reservedBits := by decide

theorem test_reject_E6_dst_of_next : decode 0x00100008#32 = .error .destination := by decide

theorem test_reject_E7_op_07 : decode 0x00000007#32 = .error .reservedOpcode := by decide

theorem test_reject_E8_type_5 : decode 0x00005010#32 = .error .illegalType := by decide

theorem test_reject_bk_of_next : decode 0x00010008#32 = .error .boundKind := by decide

theorem test_table_word : decodeTableWord 32 0x00020018 = some (.rangeU8 0 false true) := by decide

/-! ### One step on a small state -/

/-- The reset block with context 0 seeded with the words `w` and the operands `a`. -/
def ready (w : Words) (a : Args) : State :=
  { State.reset with contexts := State.reset.contexts.set 0 ⟨w, true⟩, args := a }

/-- The state a step leaves. -/
def left (o : Host.Outcome State Fault Refusal) : State :=
  match o with
  | .next t => t
  | .fault _ => State.reset
  | .refused _ => State.reset

/-- RES[0], RES[1] and LASTDRAWS. -/
def results (o : Host.Outcome State Fault Refusal) : Word × Word × Word :=
  ((left o).res0, (left o).res1, (left o).lastDraws)

/-- The words (1, 2, 3, 4) of V-G1. -/
def w1234 : Words := ⟨1#64, 2#64, 3#64, 4#64⟩

/-- Operands ARG[0] and ARG[1]. -/
def args2 (a b : Word) : Args := ⟨a, b, 0#64, 0#64⟩

/-- V-S1. -/
theorem test_seedU64 : (left (exec (.seedU64 0) State.reset)).words 0 =
    ⟨0xE220A8397B1DCDAF#64, 0x6E789E6AA1B965F4#64, 0x06C45D188009454F#64, 0xF88BB8A8724C81EC#64⟩ := by decide

/-- V-S5. -/
theorem test_seedU64_one : (left (exec (.seedU64 0) { State.reset with args := args2 1#64 0#64 })).words 0 =
    ⟨0x910A2DEC89025CC1#64, 0xBEEB8DA1658EEC67#64, 0xF893A2EEFB32555E#64, 0x71C18690EE42C90B#64⟩ := by decide

/-- V-S2. -/
theorem test_mixStream : mixStream 10 0#64 = [0xE220A8397B1DCDAF#64, 0x6E789E6AA1B965F4#64, 0x06C45D188009454F#64,
    0xF88BB8A8724C81EC#64, 0x1B39896A51A8749B#64, 0x53CB9F0C747EA2EA#64, 0x2C829ABE1F4532E1#64,
    0xC584133AC916AB3C#64, 0x3EE5789041C98AC3#64, 0xF3B8488C368CB0A6#64] := by decide

/-- R104. -/
theorem test_seedBytes : (left (exec (.seedBytes 2) { State.reset with args := ⟨1#64, 2#64, 3#64, 4#64⟩ })).ctx 2 = ⟨w1234, true⟩ := by decide

/-- V-S3. -/
theorem test_seedBytes_zero : (left (exec (.seedBytes 0) State.reset)).words 0 = expand 0#64 := by decide

/-- V-S4. -/
theorem test_seedEnt : (left (exec (.seedEnt 2) { State.reset with entropy := [0#64, 0#64, 5#64] })).words 2 =
    ⟨0x63033B0CA389C35A#64, 0xC097314D939736F8#64, 0x3B92D3F0106BC147#64, 0x196E4EC2DA05B945#64⟩ := by decide

/-- R248: BUSY stays 1. -/
theorem test_seedEnt_hangs : statusWord (left (exec (.seedEnt 2) { State.reset with entropy := [0#64, 0#64] })) = 1#64 := by decide

/-- R108. -/
theorem test_clone : (left (exec (.clone 0 1) (ready w1234 Args.zero))).ctx 1 = ⟨w1234, true⟩ := by decide

/-- V-E16. -/
theorem test_clone_self : statusWord (left (exec (.clone 0 0) (ready w1234 Args.zero))) = 0x0000000100000002#64 := by decide

/-- V-G1, draw 1. -/
theorem test_next : results (exec (.next 0) (ready w1234 Args.zero)) = (0x2800001#64, 0#64, 1#64) := by decide

/-- V-G1, draw 2, from the state worked there. -/
theorem test_next_second_draw : results (exec (.next 0) (ready ⟨7#64, 0#64, 0x40002#64, 0x0000C00000000000#64⟩ Args.zero)) =
    (0x3800067#64, 0#64, 1#64) := by decide

/-- V-J1. -/
theorem test_jump : (left (exec (.jump 0) (ready w1234 Args.zero))).words 0 =
    ⟨0x8C7A153956B5F3D1#64, 0x701F1A713401D85E#64, 0x6527F66A65469085#64, 0x8386B786C4408050#64⟩ := by decide +kernel

/-- V-J1. -/
theorem test_jump_draws : results (exec (.jump 0) (ready w1234 Args.zero)) = (0#64, 0#64, 256#64) := by decide +kernel

/-- V-J2. -/
theorem test_ljump : (left (exec (.ljump 0) (ready w1234 Args.zero))).words 0 =
    ⟨0x096A8EB71295A400#64, 0xDBF84991E50F4516#64, 0x534EE745810D2A0E#64, 0x31655CA1A2215BF1#64⟩ := by decide +kernel

/-- V-R1. -/
theorem test_randU8 : results (exec (.randU8 0) (ready (expand 0#64) Args.zero)) = (0x53#64, 0#64, 1#64) := by decide

/-- V-R1. -/
theorem test_randU16 : results (exec (.randU16 0) (ready (expand 0#64) Args.zero)) = (0x5317#64, 0#64, 1#64) := by decide

/-- V-R1. -/
theorem test_randU32 : results (exec (.randU32 0) (ready (expand 0#64) Args.zero)) = (0x53175D61#64, 0#64, 1#64) := by decide

/-- V-R1. -/
theorem test_randU64 : results (exec (.randU64 0) (ready (expand 0#64) Args.zero)) = (0x53175D61490B23DF#64, 0#64, 1#64) := by decide

/-- V-R3. -/
theorem test_randI8 : results (exec (.randI8 0) (ready (expand 1#64) Args.zero)) = (0xFFFFFFFFFFFFFFCF#64, 0#64, 1#64) := by decide

/-- V-R3. -/
theorem test_randI16 : results (exec (.randI16 0) (ready (expand 1#64) Args.zero)) = (0xFFFFFFFFFFFFCFC5#64, 0#64, 1#64) := by decide

/-- V-R3. -/
theorem test_randI32 : results (exec (.randI32 0) (ready (expand 1#64) Args.zero)) = (0xFFFFFFFFCFC5D07F#64, 0#64, 1#64) := by decide

/-- V-R3. -/
theorem test_randI64 : results (exec (.randI64 0) (ready (expand 1#64) Args.zero)) = (0xCFC5D07F6F03C29B#64, 0#64, 1#64) := by decide

/-- V-R2. -/
theorem test_randU128 : results (exec (.randU128 0) (ready (expand 0#64) Args.zero)) = (0x53175D61490B23DF#64, 0x61DA6F3DC380D507#64, 2#64) := by decide

/-- V-R2. -/
theorem test_randI128 : results (exec (.randI128 0) (ready (expand 0#64) Args.zero)) = (0x53175D61490B23DF#64, 0x61DA6F3DC380D507#64, 2#64) := by decide

/-- V-B1. -/
theorem test_randBool : results (exec (.randBool 0) (ready (expand 0#64) Args.zero)) = (1#64, 0#64, 1#64) := by decide

/-- V-B1. -/
theorem test_randBool_edges : [0#64, 1#64, 0x7FFFFFFFFFFFFFFF#64, 0x8000000000000000#64, 0xFFFFFFFFFFFFFFFF#64].map boolOfDraw =
    [0#64, 1#64, 1#64, 0#64, 0#64] := by decide

/-- V-U2. -/
theorem test_randF32 : results (exec (.randF32 0) (ready (expand 0#64) Args.zero)) = (0x3EA62EB8#64, 0#64, 1#64) := by decide +kernel

/-- V-U1. -/
theorem test_randF64 : results (exec (.randF64 0) (ready (expand 0#64) Args.zero)) = (0x3FD4C5D7585242C8#64, 0#64, 1#64) := by decide +kernel

/-- V-U3. -/
theorem test_unit64_edges : [0xFFF#64, 0x1000#64, 0x1FFFFFFFFFF#64, 0x8000000000000000#64, 0xFFFFFFFFFFFFFFFF#64].map (unitResult binary64) =
    [0#64, 0x3CB0000000000000#64, 0x3E7FFFFFFF000000#64, 0x3FE0000000000000#64, 0x3FEFFFFFFFFFFFFE#64] := by decide +kernel

/-- V-U3. -/
theorem test_unit32_edges : [0x1FFFFFFFFFF#64, 0x20000000000#64, 0x8000000000000000#64, 0xFFFFFFFFFFFFFFFF#64].map (unitResult binary32) =
    [0#64, 0x34000000#64, 0x3F000000#64, 0x3F7FFFFE#64] := by decide +kernel

/-- V-F1; byte 13 holds no value. -/
theorem test_fill : (List.range 14).map (left (exec (.fill 0) (ready w1234 (args2 13#64 0#64)))).outbuf.read =
    [some 0x01#8, some 0x00#8, some 0x80#8, some 0x02#8, some 0x00#8, some 0x00#8, some 0x00#8, some 0x00#8, some 0x67#8,
      some 0x00#8, some 0x80#8, some 0x03#8, some 0x00#8, none] := by decide +kernel

/-- V-F1, V-F3. -/
theorem test_fill_draws : (results (exec (.fill 0) (ready w1234 (args2 13#64 0#64))), results (exec (.fill 0) (ready w1234 Args.zero))) =
    ((0#64, 0#64, 2#64), (0#64, 0#64, 0#64)) := by decide +kernel

/-- V-N7, state C. -/
theorem test_rangeU8 : results (exec (.rangeU8 0 false true) (ready (expand 1#64) (args2 0x0#64 0xFF#64))) =
    (0xCE#64, 0#64, 1#64) := by decide +kernel

/-- V-N13a, state A. -/
theorem test_rangeU16 : results (exec (.rangeU16 0 true false) (ready (expand 0#64) (args2 0x3E8#64 0x7CF#64))) =
    (0x52D#64, 0#64, 1#64) := by decide +kernel

/-- V-N1's range with operand bits above 31 set, which R79 ignores. -/
theorem test_rangeU32 : results (exec (.rangeU32 0 false false) (ready (expand 0#64) (args2 0xFFFFFFFF00000000#64 0x5#64))) =
    (0x1#64, 0#64, 1#64) := by decide +kernel

/-- V-N9, state C: three draws are rejected. -/
theorem test_rangeU64_redraws : results (exec (.rangeU64 0 false false) (ready (expand 1#64) (args2 0x0#64 0x8000000000000000#64))) =
    (0x5F8408CF82E6AB6B#64, 0#64, 4#64) := by decide +kernel

/-- V-N12, state A. -/
theorem test_rangeU64_full : results (exec (.rangeU64 0 false false) (ready (expand 0#64) (args2 0x0#64 0xFFFFFFFFFFFFFFFF#64))) =
    (0x53175D61490B23DF#64, 0#64, 1#64) := by decide +kernel

/-- V-N5, state C, operands as P6 writes them. -/
theorem test_rangeI8 : results (exec (.rangeI8 0 false false) (ready (expand 1#64) (args2 0x80#64 0x7F#64))) =
    (0xFFFFFFFFFFFFFFCF#64, 0#64, 1#64) := by decide +kernel

/-- V-N13, state A. -/
theorem test_rangeI8_not_full : results (exec (.rangeI8 0 false false) (ready (expand 0#64) (args2 0xFFFFFFFFFFFFFF80#64 0x7E#64))) =
    (0xFFFFFFFFFFFFFFD2#64, 0#64, 1#64) := by decide +kernel

/-- V-N10, state C. -/
theorem test_rangeI16 : results (exec (.rangeI16 0 false false) (ready (expand 1#64) (args2 0xFFFFFFFFFFFFFFFF#64 0xFFFFFFFFFFFFFFFF#64))) =
    (0xFFFFFFFFFFFFFFFF#64, 0#64, 1#64) := by decide +kernel

/-- V-N4, state A. -/
theorem test_rangeI32 : results (exec (.rangeI32 0 false false) (ready (expand 0#64) (args2 0xFFFFFFFFFFFFFFF6#64 0xA#64))) =
    (0xFFFFFFFFFFFFFFFC#64, 0#64, 1#64) := by decide +kernel

/-- V-N13b, state A. -/
theorem test_rangeI64 : results (exec (.rangeI64 0 true false) (ready (expand 0#64) (args2 0x8000000000000000#64 0x7FFFFFFFFFFFFFFF#64))) =
    (0xD3175D61490B23DF#64, 0#64, 1#64) := by decide +kernel

/-- V-N20, V-N17, V-N18, and V-N20's bytes as i8, which are not empty. -/
theorem test_range_empty : [(left (exec (.rangeU8 0 false false) (ready w1234 (args2 255#64 0#64)))).errcode,
    (left (exec (.rangeI8 0 true false) (ready w1234 (args2 127#64 127#64)))).errcode,
    (left (exec (.rangeI8 0 false true) (ready w1234 (args2 0x80#64 0x80#64)))).errcode,
    (left (exec (.rangeI8 0 false false) (ready w1234 (args2 0xFF#64 0#64)))).errcode] =
    [.emptyRange, .emptyRange, .emptyRange, .none] := by decide +kernel

/-- A draw source that deals out a list. -/
def stub : List Word → Word × List Word
  | [] => (0#64, [])
  | x :: rest => (x, rest)

/-- V-L3. -/
theorem test_lemire_L3 : (lemire stub 9 3#64 [0#64, 0#64, 0x8000000000000000#64]).map (fun q => (q.1, q.2.2)) = some (1#64, 3) := by decide

/-- V-L4. -/
theorem test_lemire_L4 : (lemire stub 9 6#64 [0x8000000000000000#64, 1#64]).map (fun q => (q.1, q.2.2)) = some (0#64, 2) := by decide

/-- V-L6. -/
theorem test_lemire_L6 : (lemire stub 9 0x8000000000000001#64 [2#64, 3#64]).map (fun q => (q.1, q.2.2)) = some (1#64, 2) := by decide

/-- V-L7. -/
theorem test_lemire_L7 : (lemire stub 9 0xFFFFFFFFFFFFFFFF#64 [5#64]).map (fun q => (q.1, q.2.2)) = some (4#64, 1) := by decide

/-- V-L12. -/
theorem test_lemire_L12 : (lemire stub 9 10#64 [0x1999999999999999#64]).map (fun q => (q.1, q.2.2)) = some (0#64, 1) := by decide

/-- V-FI3. -/
theorem test_float_FI3 : scaleFloat binary64 0x3FF0000000000000 0x3FF0000000000001 0xFFFFFFFFFFFFFFFF#64 = 0x3FF0000000000001 := by decide +kernel

/-- V-FI3a. -/
theorem test_float_FI3a : scaleFloat binary32 0x3F800000 0x3F800001 0xFFFFFFFFFFFFFFFF#64 = 0x3F800001 := by decide +kernel

/-- V-FI4. -/
theorem test_float_FI4 : scaleFloat binary64 0x8000000000000000 0x3FF0000000000000 0#64 = 0 := by decide +kernel

/-- V-FI5. -/
theorem test_float_FI5 : scaleFloat binary64 0xBFF0000000000000 0x3FF0000000000000 0x8000000000000000#64 = 0 := by decide +kernel

/-- V-FI6. -/
theorem test_float_FI6 : scaleFloat binary64 0xBFF0000000000000 0x3FF0000000000000 0x53175D61490B23DF#64 = 0xBFD674514F5B7A70 := by decide +kernel

/-- V-FI6a. -/
theorem test_float_FI6a : scaleFloat binary32 0xBF800000 0x3F800000 0x53175D61490B23DF#64 = 0xBEB3A290 := by decide +kernel

/-- V-FI11. -/
theorem test_float_FI11 : scaleFloat binary64 0xFFEFFFFFFFFFFFFF 0x7FEFFFFFFFFFFFFF 0x1000#64 = 0x7FF0000000000000 := by decide +kernel

/-- V-FI12. -/
theorem test_float_FI12 : scaleFloat binary64 0 0x10 0x8000000000000000#64 = 0x8 := by decide +kernel

/-- V-FI12a. -/
theorem test_float_FI12a : scaleFloat binary64 0 1 0xFFFFFFFFFFFFFFFF#64 = 1 := by decide +kernel

/-- V-FI1. -/
theorem test_rangeF64 : results (exec (.rangeF64 0) (ready (expand 0#64) (args2 0x4000000000000000#64 0x4014000000000000#64))) =
    (0x4007CA30C11ED90B#64, 0#64, 1#64) := by decide +kernel

/-- V-FI10: the words (0, 5, 5, 0) draw 0. -/
theorem test_rangeF64_nan : (left (exec (.rangeF64 0) (ready ⟨0#64, 5#64, 5#64, 0#64⟩ (args2 0xFFEFFFFFFFFFFFFF#64 0x7FEFFFFFFFFFFFFF#64)))).res0 =
    0x7FF8000000000000#64 := by decide +kernel

/-- V-FI2, with operand bits above 31 set. -/
theorem test_rangeF32 : results (exec (.rangeF32 0) (ready (expand 0#64) (args2 0xFFFFFFFF40000000#64 0x40A00000#64))) =
    (0x403E5185#64, 0#64, 1#64) := by decide +kernel

/-- V-FI11a. -/
theorem test_rangeF32_nan : (left (exec (.rangeF32 0) (ready ⟨0#64, 5#64, 5#64, 0#64⟩ (args2 0xFF7FFFFF#64 0x7F7FFFFF#64)))).res0 = 0x7FC00000#64 := by decide +kernel

/-- V-FI7, V-FI8, V-FI9a, V-FI9b, V-FI9c, and a negative bound below a subnormal one. -/
theorem test_intervals : [validInterval binary64 (args2 0x3FF0000000000000#64 0x3FF0000000000000#64),
    validInterval binary64 (args2 0x7FF8000000000000#64 0x3FF0000000000000#64),
    validInterval binary64 (args2 0#64 0x7FF0000000000000#64), validInterval binary64 (args2 0x8000000000000000#64 0#64),
    validInterval binary32 (args2 0x3F800000#64 0x7FC00000#64), validInterval binary32 (args2 0xBF800000#64 0x00000001#64)] =
    [false, false, false, false, false, true] := by decide +kernel

/-! ### Faults, reset and the window -/

/-- V-E9. -/
theorem test_status_E9 : (statusWord (issueWord 0x00003011#32 { State.reset with args := args2 0#64 0#64 }),
    statusWord (issueWord 0x00003011#32 (ready w1234 (args2 0#64 0#64)))) = (0x104#64, 0x100000104#64) := by decide +kernel

/-- V-E12. -/
theorem test_status_E12 : (statusWord (issueWord 0x00000908#32 { State.reset with args := args2 0#64 0#64 }),
    statusWord (issueWord 0x00000908#32 (ready w1234 (args2 0#64 0#64)))) = (0x204#64, 0x100000204#64) := by decide +kernel

/-- V-E13. -/
theorem test_status_E13 : (statusWord (issueWord 0x00000108#32 { State.reset with args := args2 0#64 0#64 }),
    statusWord (issueWord 0x00000108#32 (ready w1234 (args2 0#64 0#64)))) = (0x304#64, 0x100000304#64) := by decide +kernel

/-- V-E14. -/
theorem test_status_E14 : (statusWord (issueWord 0x00500004#32 { State.reset with args := args2 0#64 0#64 }),
    statusWord (issueWord 0x00500004#32 (ready w1234 (args2 0#64 0#64)))) = (0x204#64, 0x100000204#64) := by decide +kernel

/-- V-E15. -/
theorem test_status_E15 : (statusWord (issueWord 0x00100204#32 { State.reset with args := args2 0#64 0#64 }),
    statusWord (issueWord 0x00100204#32 (ready w1234 (args2 0#64 0#64)))) = (0x304#64, 0x100000304#64) := by decide +kernel

/-- V-E19. -/
theorem test_status_E19 : (statusWord (issueWord 0x00000020#32 { State.reset with args := args2 257#64 0#64 }),
    statusWord (issueWord 0x00000020#32 (ready w1234 (args2 257#64 0#64)))) = (0x304#64, 0x100000604#64) := by decide +kernel

/-- V-E22 and P5. -/
theorem test_overrun : statusWord (issueWord 0x00000008#32 (issueWord 0x00000008#32 (ready w1234 Args.zero))) = 0x0000000100000705#64 := by decide +kernel

/-- V-E22 and P5. -/
theorem test_overrun_completes : statusWord (completionTurn (issueWord 0x00000008#32 (issueWord 0x00000008#32 (ready w1234 Args.zero)))) =
    0x0000000100000706#64 := by decide +kernel

/-- V-E21. -/
theorem test_soft_reset : memWrite 0x008 8 1#64 (issueWord 0#32 (ready w1234 (args2 5#64 4#64))) = { State.reset with response := .ack } := by decide +kernel

/-- V-M1. -/
theorem test_id : (memRead 0x000 8 State.reset).response = .data 0x4855594301010004#64 := by decide

/-- V-M2, V-M4, V-M5, V-M6. -/
theorem test_bus_errors : [(memRead 0x000 4 State.reset).response, (memRead 0x011 8 State.reset).response, (memRead 0x010 3 State.reset).response,
    (memRead 0x058 8 State.reset).response] = [.busError, .busError, .busError, .data 0#64] := by decide

/-- V-F2 read as V-M8 and V-M9 read P1. -/
theorem test_outbuf_reads : [(memRead 0x800 8 (left (exec (.fill 0) (ready w1234 (args2 16#64 0#64))))).response,
    (memRead 0x804 4 (left (exec (.fill 0) (ready w1234 (args2 16#64 0#64))))).response,
    (memRead 0x808 1 (left (exec (.fill 0) (ready w1234 (args2 16#64 0#64))))).response] =
    [.data 0x2800001#64, .data 0#64, .data 0x67#64] := by decide +kernel

/-- R83. -/
theorem test_split_expands : PseudoStmt.expand .ptr64 (.split 1 0 2) =
    [.cmd (.clone 0 1), .wait, .cmd (.jump 1), .wait, .cmd (.jump 1), .wait] := by decide

/-- V-E17, and NEXT on an unseeded context. -/
theorem test_first_step_after_reset : (statusWord (left (step (State.reset.withFetchWord 32 0x00000001))),
    statusWord (left (step (State.reset.withFetchWord 32 0x00000008)))) = (0x0000000100000002#64, 0x0000000000000304#64) := by decide +kernel

/-! ### Witnesses: states and operands that meet the hypotheses of the statements -/

/-- A ready block with context 0 seeded, for the statements with hypotheses `Ready` and `CanDraw` (NEXT, JUMP, LJUMP, RAND.*,
`NextCompletes` to `RandFloatsComplete`). -/
theorem witness_ready_and_seeded : (ready w1234 Args.zero).Ready ∧ (ready w1234 Args.zero).CanDraw 0 ∧
    (ready w1234 Args.zero).words 0 = ⟨1#64, 2#64, 3#64, 4#64⟩ := by decide

/-- The greatest context of the reference configuration, for the seeding statements; both clauses of `SeedBytesCompletes`. -/
theorem witness_seeding : State.reset.Ready ∧ 3 < State.reset.cfg.nctx ∧ State.reset.args = Args.zero ∧
    ({ State.reset with args := args2 0#64 1#64 }).args ≠ Args.zero := by decide

/-- Both clauses of `SeedEntTakesTheFirstNonZeroWord`. -/
theorem witness_entropy : (1#64 ≠ 0#64 ∧ ({ State.reset with entropy := [0#64, 1#64, 7#64] }).entropy =
    List.replicate 1 0#64 ++ 1#64 :: [7#64]) ∧ State.reset.entropy = List.replicate 0 0#64 := by decide

/-- `CloneCompletes`, to the greatest context. -/
theorem witness_clone : (ready w1234 Args.zero).Ready ∧ (ready w1234 Args.zero).CanDraw 0 ∧
    3 < (ready w1234 Args.zero).cfg.nctx := by decide

theorem witness_well_formed : WellFormed (.clone 15 15) ∧ WellFormed (.rangeU8 0 true true) := by decide

/-- `EncodeDecodeIsIdentity`, `DecoderReadsTheFields`, and the rows of `EveryWordSelectsOneRowOrIsIllegal`. -/
theorem witness_decoded : decode 0x00F00F04#32 = .ok (.clone 15 15) ∧
    (⟨"CLONE", 0x00000004#32, 0xFF0FF0FF#32⟩ : OpcodeRow) ∈ opcodeRows ∧
    (⟨"CLONE", 0x00000004#32, 0xFF0FF0FF#32⟩ : OpcodeRow).Selects 0x00F00F04#32 := by decide

/-- Every clause of `StepRunsTheDecodedCommand`. -/
theorem witness_step : (State.reset.withFetchWord 32 0x108).agenda = .command 0x108#32 :: [] ∧
    decode 0x108#32 = .ok (.next 1) ∧ decode 0#32 = .error .reservedOpcode ∧
    decodeTableWord 32 0x108 = some (.next 1) ∧ State.reset.agenda = [] ∧
    [Event.read 0 8, .write 0 8 0#64, .complete, .entropy 0#64, .hardReset].map
      (fun e => ({ State.reset with agenda := [e] }).agenda) =
      [[.read 0 8], [.write 0 8 0#64], [.complete], [.entropy 0#64], [.hardReset]] := by decide

theorem witness_idle : State.reset.Idle := by decide

/-- A block with a NEXT in flight. -/
def flying : State := issueWord 0x00000008#32 (ready w1234 Args.zero)

/-- A block in the fault state, idle. -/
def stuck : State := issueWord 0#32 (ready w1234 Args.zero)

/-- The clauses of `IssueReportsTheFirstFailedCheck` and `CommandsTrapAtIssue`: fault, busy, illegal, context at NCTX, destination
at NCTX, unseeded, operand fault, accepted. -/
theorem witness_issue : stuck.fault = true ∧ (flying.fault = false ∧ flying.busy = true) ∧
    decode 0#32 = .error .reservedOpcode ∧
    (decode 0x408#32 = .ok (.next 4) ∧ State.reset.cfg.nctx ≤ (Instr.next 4).ctx) ∧
    (decode 0x00400004#32 = .ok (.clone 0 4) ∧ State.reset.cfg.nctx ≤ 4) ∧
    ((Instr.next 3).op ∉ [0x01#8, 0x02#8, 0x03#8] ∧ (ready w1234 Args.zero).seeded 3 = false) ∧
    operandFault Params.reference (args2 257#64 0#64) (.fill 0) = some .fillTooLong ∧
    operandFault Params.reference (args2 256#64 0#64) (.fill 0) = none := by decide

theorem witness_not_a_seeding_command :
    ∀ c, Instr.next 3 ≠ .seedU64 c ∧ Instr.next 3 ≠ .seedBytes c ∧ Instr.next 3 ≠ .seedEnt c := by
  intro c
  exact ⟨nofun, nofun, nofun⟩

/-- `OverrunLeavesTheCommandInFlight`. -/
theorem witness_overrun : flying.busy = true ∧ flying.fault = false ∧ flying.latch = some ⟨.next 0, Args.zero⟩ ∧
    (completionOf (.next 0) Args.zero flying).isSome = true := by decide

/-- `FaultStateIgnoresCommandsOnly`, with a command in flight, and its register clause at the last register. -/
theorem witness_fault_in_flight : (issueWord 0#32 flying).fault = true ∧
    (issueWord 0#32 flying).latch = some ⟨.next 0, Args.zero⟩ ∧
    (completionOf (.next 0) Args.zero (issueWord 0#32 flying)).isSome = true ∧ 0x050 < 0x058 ∧ 0x050 % 8 = 0 ∧
    (1#64).getLsbD 0 = true ∧ 255 < flying.cfg.outbufBytes ∧ 0x800 + flying.cfg.outbufBytes ≤ 0x900 := by decide

/-- A move that resets, and one that does not though it writes CTRL. -/
theorem witness_resets : (Event.write 0x008 8 1#64).Resets Params.reference ∧
    ¬ (Event.write 0x008 8 2#64).Resets Params.reference := by
  constructor
  · exact .inr ⟨1#64, by decide, rfl⟩
  · rintro (h | ⟨v, hv, h⟩)
    · cases h
    · injection h with _ _ h
      subst h
      exact absurd hv (by decide)

/-- `OnlyAResetLeavesTheFaultState`: a step that resets, and a step in the fault state that does not. -/
theorem witness_fault_steps :
    step { stuck with agenda := [.write 0x008 8 1#64] } =
      .next (left (step { stuck with agenda := [.write 0x008 8 1#64] })) ∧
    step { stuck with agenda := [.write 0x018 8 8#64] } =
      .next (left (step { stuck with agenda := [.write 0x018 8 8#64] })) ∧ stuck.fault = true := by
  exact ⟨rfl, rfl, rfl⟩

/-- `OnlyAResetClearsSeeded`: a seeded context, a step with no move waiting, and a step that resets. -/
theorem witness_seeded_step : step flying = .next (completionTurn flying) ∧ flying.seeded 0 = true ∧
    flying.agenda = [] ∧ step { flying with agenda := [.hardReset] } = .next (resetBlock flying) ∧
    Event.hardReset.Resets flying.cfg := by
  exact ⟨rfl, rfl, rfl, rfl, .inl rfl⟩

/-- `BusErrorsChangeNothing` and `HostAccessEffects`: each kind of bus error, and each register offset and the end of the
window admitted. -/
theorem witness_accesses : 3 ∉ [1, 2, 4, 8] ∧ 0x802 % 4 ≠ 0 ∧ (0x050 < 0x058 ∧ 4 ≠ 8) ∧
    [0x008, 0x018, 0x020, 0x038, 0x040, 0xFF8].map (fun off => admitted off 8) = [true, true, true, true, true, true] ∧
    admitted 0xFFF 1 = true := by decide

/-- The reserved ranges of `RegisterReadValues`, at their ends. -/
theorem witness_reserved : 0x058 ≤ 0x7FF ∧ 0x7FF < 0x800 ∧ 0x800 + State.reset.cfg.outbufBytes ≤ 0x900 := by decide

theorem witness_context_count : State.reset.contexts.length ≤ 16 ∧ Params.reference.legal = true := by decide

/-- `OutbufReadsAreLittleEndian`, at the last 8 bytes of OUTBUF, with a byte that a FILL wrote. -/
theorem witness_outbuf : 248 % 8 = 0 ∧ 248 < State.reset.cfg.outbufBytes ∧ State.reset.cfg.legal = true ∧
    ({ State.reset with outbuf := [(255, 7#8)] }).outbuf.read (248 + 7) = some 7#8 := by decide

/-- `OnlyCompletionWritesResults`: a CMD write. -/
theorem witness_other_move : step { State.reset with agenda := [.write 0x018 8 1#64] } =
    .next (left (step { State.reset with agenda := [.write 0x018 8 1#64] })) ∧
    Event.write 0x018 8 1#64 ≠ .complete ∧ (∀ w, Event.write 0x018 8 1#64 ≠ .command w) ∧
    ¬ (Event.write 0x018 8 1#64).Resets Params.reference := by
  refine ⟨rfl, nofun, nofun, ?_⟩
  rintro (h | ⟨v, hv, h⟩)
  · cases h
  · injection h with h
    exact absurd h (by decide)

theorem witness_non_zero_words : w1234 ≠ Words.zero := by decide

/-- `FillCompletes` at L = OUTBUF_BYTES and L = OUTBUF_BYTES + 1, and `ReadsAfterFillSeeTheDraws` at its last draw. -/
theorem witness_fill : (args2 256#64 0#64).a0.toNat ≤ Params.reference.outbufBytes ∧
    Params.reference.outbufBytes < (args2 257#64 0#64).a0.toNat ∧ 8 * (31 + 1) ≤ (args2 256#64 0#64).a0.toNat ∧
    (ready w1234 (args2 256#64 0#64)).Ready ∧ (ready w1234 (args2 256#64 0#64)).CanDraw 0 ∧
    (ready w1234 (args2 256#64 0#64)).cfg.legal = true := by decide

theorem witness_fill_next : exec (.fill 0) (ready w1234 (args2 256#64 0#64)) =
    .next (left (exec (.fill 0) (ready w1234 (args2 256#64 0#64)))) := rfl

/-- `EmptyRangesTrap` has no hypothesis on the operands; (5, 5] is empty and [5, 5] is not. -/
theorem witness_empty_range :
    (IntTy.u8.ofReg 5#64 - 0 < IntTy.u8.ofReg 5#64 + 1) ∧ ¬ (IntTy.u8.ofReg 5#64 - 0 < IntTy.u8.ofReg 5#64 + 0) := by decide

/-- `FullRangesCompleteAsRand`, i8 and u64. -/
theorem witness_full_range : IntTy.i8.ofReg 0x80#64 = IntTy.i8.minVal ∧ IntTy.i8.ofReg 0x7F#64 = IntTy.i8.maxVal ∧
    IntTy.u64.ofReg 0#64 = IntTy.u64.minVal ∧ IntTy.u64.ofReg 0xFFFFFFFFFFFFFFFF#64 = IntTy.u64.maxVal := by decide

/-- `RangesCompleteByLemire` with k = 0: range.i32 of [-10, 10] on (1, 2, 3, 4), whose first draw 0x2800001 times 21 has the
low half 880803861, above t = (2^64 - 21) mod 21 = 16 (V-N4, state B). -/
theorem witness_lemire_accepts : -10 = IntTy.i32.ofReg 0xFFFFFFF6#64 + 0 ∧ 10 = IntTy.i32.ofReg 10#64 - 0 ∧
    (-10 : Int) ≤ 10 ∧ ¬ ((-10 : Int) = IntTy.i32.minVal ∧ (10 : Int) = IntTy.i32.maxVal) ∧
    nthDraw w1234 0 = 0x2800001#64 ∧ (2 ^ 64 - 21) % 21 ≤ 0x2800001 * 21 % 2 ^ 64 := by decide

/-- `RangesCompleteByLemire` with k = 1: range.u64 of [0, 2] on (0, 5, 5, 0), whose first draw is 0 and rejected (V-L1), and whose
second draw 5 * 2^23 + 5 is accepted. -/
theorem witness_lemire_rejects : nthDraw ⟨0#64, 5#64, 5#64, 0#64⟩ 0 = 0#64 ∧
    nthDraw ⟨0#64, 5#64, 5#64, 0#64⟩ 1 ≠ 0#64 ∧ 0 * 3 % 2 ^ 64 < (2 ^ 64 - 3) % 3 ∧
    (2 ^ 64 - 3) % 3 ≤ (nthDraw ⟨0#64, 5#64, 5#64, 0#64⟩ 1).toNat * 3 % 2 ^ 64 := by decide

/-- `RangeResultsLieInTheRange`. -/
theorem witness_range_done : exec (.rangeI32 0 false false) (ready w1234 (args2 0xFFFFFFF6#64 10#64)) =
      .next (left (exec (.rangeI32 0 false false) (ready w1234 (args2 0xFFFFFFF6#64 10#64)))) ∧
    (left (exec (.rangeI32 0 false false) (ready w1234 (args2 0xFFFFFFF6#64 10#64)))).done = true :=
  ⟨rfl, by decide +kernel⟩

/-- Words whose first draw is 2^64 - 1, for `TheGreatestDrawIsAlwaysAccepted`; and h < range. -/
theorem witness_greatest_draw : nthDraw ⟨0#64, 0#64, 0#64, 0xFFFFFFFFFFFFFFFF#64⟩ 0 = 0xFFFFFFFFFFFFFFFF#64 ∧
    0#64 < 3#64 ∧ 2#64 < 3#64 := by decide

theorem witness_formats : (binary32 = binary32 ∨ binary32 = binary64) ∧ (binary64 = binary32 ∨ binary64 = binary64) :=
  ⟨.inl rfl, .inr rfl⟩

/-- Both formats of `FloatOperationsRoundOnce`, and patterns for each of its clauses: the greatest finite one, -inf and a NaN. -/
theorem witness_float_operands : (binary32 = binary32 ∧ 149 = 149) ∧ (binary64 = binary64 ∧ 1074 = 1074) ∧
    0xFF800000 < 2 * binary32.signWeight ∧ 0xFFF8000000000000 < 2 * binary64.signWeight ∧
    binary32.isFinite 0x7F7FFFFF = true ∧ binary32.isInf 0xFF800000 = true ∧ binary64.isNaN 0xFFF8000000000000 = true ∧
    binary32.signedUnits 0x80000000 = 0 ∧ binary32.signedUnits 0x80000001 ≠ 0 := by decide +kernel

/-- Valid intervals in both formats, with a finite scale and with one that overflows (V-FI1, V-FI2, V-FI10, V-FI11a). -/
theorem witness_intervals : validInterval binary64 (args2 0x4000000000000000#64 0x4014000000000000#64) = true ∧
    validInterval binary32 (args2 0x40000000#64 0x40A00000#64) = true ∧
    binary64.isFinite (binary64.sub 0x4014000000000000 0x4000000000000000) = true ∧
    validInterval binary64 (args2 0xFFEFFFFFFFFFFFFF#64 0x7FEFFFFFFFFFFFFF#64) = true ∧
    binary64.isFinite (binary64.sub 0x7FEFFFFFFFFFFFFF 0xFFEFFFFFFFFFFFFF) = false ∧
    validInterval binary32 (args2 0xFF7FFFFF#64 0x7F7FFFFF#64) = true ∧
    binary32.isFinite (binary32.sub 0x7F7FFFFF 0xFF7FFFFF) = false ∧
    binary32.unitMantissa 0x1FFFFFFFFFF#64 = 0 ∧ binary32.unitMantissa 0x20000000000#64 ≠ 0 := by decide +kernel

/-- A well-formed state with a command in flight, for the statements about steps from well-formed states. -/
theorem witness_invariant : flying.Inv ∧ flying.SeededNonZero := by
  refine ⟨⟨by decide, by decide, by decide, by decide, by decide, by decide, by decide, ?_⟩, by decide⟩
  intro l hl
  have h : l = ⟨.next 0, Args.zero⟩ := by
    have : flying.latch = some ⟨.next 0, Args.zero⟩ := by decide
    rw [this] at hl
    exact (Option.some.inj hl).symm
  subst h
  exact ⟨by decide, fun _ => by decide, by decide⟩

theorem witness_invariant_step : step flying = .next (completionTurn flying) ∧
    flying.latch = some ⟨.next 0, Args.zero⟩ ∧ flying.agenda = [] := by
  exact ⟨rfl, rfl, rfl⟩

/-- Two contexts that hold the same words (`SameWordsGiveTheSameResults`), after a CLONE. -/
def cloned : State := { (ready w1234 Args.zero) with contexts := [⟨w1234, true⟩, ⟨w1234, true⟩, GenCtx.unseeded, GenCtx.unseeded] }

theorem witness_same_words : (Instr.next 0).op ∉ [0x01#8, 0x02#8, 0x03#8, 0x04#8] ∧ cloned.CanDraw 0 ∧ cloned.CanDraw 1 ∧
    cloned.words 0 = cloned.words 1 ∧ withContext 1 (.next 0) = .next 1 := by decide

theorem witness_same_words_invariant : cloned.Inv := by
  refine ⟨by decide, by decide, by decide, by decide, by decide, by decide, by decide, ?_⟩
  intro l hl
  exact absurd hl (by simp [cloned, ready, State.reset, State.resetWith])

/-- Two states that differ in the words of an unseeded context (`UnseededWordsAreUnobservable`). -/
theorem witness_unseeded : SameButUnseeded flying { flying with contexts := flying.contexts.set 1 ⟨w1234, false⟩ } := by
  refine ⟨rfl, by decide, fun c => ?_⟩
  by_cases h : c < 4
  · have : ∀ c < 4, flying.seeded c = ({ flying with contexts := flying.contexts.set 1 ⟨w1234, false⟩ } : State).seeded c ∧
        (flying.seeded c = true →
          flying.words c = ({ flying with contexts := flying.contexts.set 1 ⟨w1234, false⟩ } : State).words c) := by decide
    exact this c h
  · have h1 : flying.ctx c = GenCtx.unseeded := by
      have : flying.contexts.length = 4 := by decide
      simp [State.ctx, List.getD, List.getElem?_eq_none (by omega : flying.contexts.length ≤ c)]
    have h2 : ({ flying with contexts := flying.contexts.set 1 ⟨w1234, false⟩ } : State).ctx c = GenCtx.unseeded := by
      have : (flying.contexts.set 1 ⟨w1234, false⟩).length = 4 := by decide
      simp only [State.ctx, List.getD, List.getElem?_eq_none (by omega : (flying.contexts.set 1 ⟨w1234, false⟩).length ≤ c)]
      rfl
    simp [State.seeded, State.words, h1, h2]

end Sys2Proof.Tests
end

/-! # Scope: the steps of the block, its two levels, and the integer operands (spec/00_scope.md) -/

namespace Sys2Proof.Machine

/-! ### A step by its next move -/

theorem step_cons {s : State} {e : Event} {rest : List Event} (h : s.agenda = e :: rest) :
    step s = move e { s with agenda := rest } := by
  simp [step, h]

theorem step_withAgenda (s : State) (e : Event) (rest : List Event) :
    step { s with agenda := e :: rest } = move e { s with agenda := rest } := rfl

theorem step_nil {s : State} (h : s.agenda = []) : step s = .next (completionTurn s) := by
  simp [step, h]

theorem commandWord_ok {w : CmdWord} {i : Instr} (s : State) (h : decode w = .ok i) : commandWord w s = exec i s := by
  simp [commandWord, h]

theorem commandWord_error {w : CmdWord} {e : DecodeReject} (s : State) (h : decode w = .error e) :
    commandWord w s = .next (issue none s) := by
  simp [commandWord, h]

theorem decode_fetchWord_of_decodeTableWord {nbits w : Nat} {i : Instr} (h : decodeTableWord nbits w = some i) :
    decode (fetchWord nbits w) = .ok i := by
  change (decode (fetchWord nbits w)).toOption = some i at h
  cases hd : decode (fetchWord nbits w) with
  | error e => simp [hd, Except.toOption] at h
  | ok j => simpa [hd, Except.toOption] using h

theorem step_withFetchWord (s : State) (nbits w : Nat) :
    step (s.withFetchWord nbits w) = commandWord (fetchWord nbits w) s := rfl

/-- Settles O6: each clause is one case of the next move. -/
theorem stepRunsTheDecodedCommand : Obligations.StepRunsTheDecodedCommand := by
  refine ⟨fun s w rest i ha hd => ?_, fun s w rest e ha hd => ?_, fun s nbits w i hd => ?_, fun s rest => ?_⟩
  · exact (step_cons ha).trans (commandWord_ok _ hd)
  · exact (step_cons ha).trans (commandWord_error _ hd)
  · exact (step_withFetchWord s nbits w).trans (commandWord_ok s (decode_fetchWord_of_decodeTableWord hd))
  · exact ⟨fun _ _ => step_cons, fun _ _ _ => step_cons, step_cons, fun _ => step_cons, step_cons, step_nil⟩

/-! ### The bus response takes no part in a completion step -/

theorem completeRange_respond (t : IntTy) (c : Nat) (lx ux : Bool) (a : Args) (r : Response) (s : State) :
    completeRange t c lx ux a (respond r s) = (completeRange t c lx ux a s).map (respond r) := by
  have hwords : (respond r s).words c = s.words c := rfl
  unfold completeRange
  rw [hwords]
  split
  · rfl
  · split
    · rfl
    · split <;> rfl

theorem completeSeedEnt_respond (c : Nat) (a : Args) (r : Response) (s : State) :
    completeSeedEnt c a (respond r s) = (completeSeedEnt c a s).map (respond r) := by
  unfold completeSeedEnt
  rw [respond_entropy]
  split <;> rfl

theorem completionOf_respond (i : Instr) (a : Args) (r : Response) (s : State) :
    completionOf i a (respond r s) = (completionOf i a s).map (respond r) := by
  cases i
  case seedEnt => exact completeSeedEnt_respond _ a r s
  case rangeU8 => exact completeRange_respond ..
  case rangeU16 => exact completeRange_respond ..
  case rangeU32 => exact completeRange_respond ..
  case rangeU64 => exact completeRange_respond ..
  case rangeI8 => exact completeRange_respond ..
  case rangeI16 => exact completeRange_respond ..
  case rangeI32 => exact completeRange_respond ..
  case rangeI64 => exact completeRange_respond ..
  all_goals rfl

theorem completionTurn_idle {s : State} (h : s.latch = none) : completionTurn s = s := by
  simp [completionTurn, h]

theorem completionTurn_inFlight {s : State} {l : Latch} (h : s.latch = some l) :
    completionTurn s = (completionOf l.cmd l.args s).getD s := by
  simp [completionTurn, completeBy, h]

@[simp] theorem completionTurn_respond (r : Response) (s : State) :
    completionTurn (respond r s) = respond r (completionTurn s) := by
  cases hl : s.latch with
  | none => rw [completionTurn_idle hl, completionTurn_idle (s := respond r s) hl]
  | some l =>
    rw [completionTurn_inFlight hl, completionTurn_inFlight (s := respond r s) hl, completionOf_respond]
    exact Option.getD_map ..

@[simp] theorem completionTurn_response (s : State) : (completionTurn s).response = s.response := by
  have h := completionTurn_respond s.response s
  rw [respond_own] at h
  rw [h, respond_response]

/-- A completion step after any response leaves the same state, the response apart. -/
theorem completionTurn_eq_of_respond (r : Response) (s : State) :
    completionTurn s = { completionTurn (respond r s) with response := s.response } := by
  rw [completionTurn_respond, ← completionTurn_response s]
  rfl

/-! ### The waiting moves take no part in an issue step -/

theorem issueFault_agenda (cmd : Option Instr) (s : State) (es : List Event) :
    issueFault cmd { s with agenda := es } = issueFault cmd s := rfl

theorem issueWord_agenda (w : CmdWord) (s : State) (es : List Event) :
    issueWord w { s with agenda := es } = { issueWord w s with agenda := es } := by
  unfold issueWord issue
  rw [issueFault_agenda]
  split
  · rfl
  · split <;> rfl

/-! ### The command level and the register level (R14) -/

/-- On an idle block a command is its issue step and then the completion agent's turn, whether or not it is accepted. -/
theorem runCommand_of_idle {s : State} (i : Instr) (h : s.Idle) :
    runCommand i (completionOf i) s = completionTurn (issue (some i) s) := by
  obtain ⟨-, hlatch⟩ := h
  rcases issue_cases (some i) s with ⟨hf, he⟩ | ⟨code, hf, hi, he⟩ | ⟨_, ⟨⟩, hf, hi, he⟩
  · have hrej : accepts i s = false := by simp [accepts, hf]
    rw [runCommand_rejected _ hrej, he, completionTurn_idle hlatch]
  · have hrej : accepts i s = false := by simp [accepts, hi]
    rw [runCommand_rejected _ hrej, he, completionTurn_idle (s := raiseFault code s) hlatch]
  · have hacc : accepts i s = true := by simp [accepts, hf, hi]
    rw [runCommand_accepted _ hacc, he, completionTurn_inFlight (accept_latch s i)]

@[simp] theorem issue_none_latch (s : State) : (issue none s).latch = s.latch := by
  rcases issue_cases none s with ⟨_, he⟩ | ⟨code, _, _, he⟩ | ⟨_, ⟨⟩, _⟩ <;> rw [he]
  exact raiseFault_latch s code

theorem commandWord_of_idle {s : State} (w : CmdWord) (h : s.Idle) :
    commandWord w s = .next (completionTurn (issueWord w s)) := by
  unfold issueWord
  cases hd : decode w with
  | ok i =>
    rw [commandWord_ok s hd, exec_eq, runCommand_of_idle i h]
    rfl
  | error e =>
    have hidle : (issue none s).latch = none := (issue_none_latch s).trans h.2
    rw [commandWord_error s hd, ← completionTurn_idle hidle]
    rfl

theorem windowOffset_base_add (p : Params) {off : Nat} (h : off < 4096) : windowOffset p (p.base + off) = some off := by
  simp [windowOffset, h]

/-- An 8-byte write to CMD is the issue step of bits 31:0 of its value, and is acknowledged. -/
theorem busWrite_cmd (s : State) (v : Word) :
    busWrite (s.cfg.base + 0x018) 8 v s = .next (respond .ack (issueWord (v.setWidth 32) s)) := by
  unfold busWrite
  rw [windowOffset_base_add s.cfg (by decide)]
  rfl

theorem step_command_of_idle {s : State} (w : CmdWord) (rest : List Event) (h : s.Idle) :
    step { s with agenda := .command w :: rest } = .next (completionTurn { issueWord w s with agenda := rest }) := by
  rw [← issueWord_agenda]
  exact commandWord_of_idle (s := { s with agenda := rest }) w h

theorem step_write_cmd (s : State) (v : Word) (rest : List Event) :
    step { s with agenda := .write (s.cfg.base + 0x018) 8 v :: rest } =
      .next (respond .ack { issueWord (v.setWidth 32) s with agenda := rest }) := by
  rw [← issueWord_agenda]
  exact busWrite_cmd { s with agenda := rest } v

/-- Settles O7: each level ends in the completion turn after the issue step, and the response plays no part in it. -/
theorem commandAndRegisterLevelsAgree : Obligations.CommandAndRegisterLevelsAgree := by
  intro s v rest hidle
  have hturn := completionTurn_eq_of_respond .ack { issueWord (v.setWidth 32) s with agenda := rest }
  have hresponse : (issueWord (v.setWidth 32) s).response = s.response := issue_response _ s
  refine ⟨_, _, _, step_command_of_idle (v.setWidth 32) rest hidle, step_write_cmd s v (.complete :: rest),
    step_withAgenda (respond .ack (issueWord (v.setWidth 32) s)) .complete rest, ?_⟩
  rwa [← hresponse]

/-! ### Integer operands (R11, R79) -/

namespace IntTy

theorem bits_pos (t : IntTy) : 0 < t.bits := by cases t <;> decide

theorem ofReg_unsigned {t : IntTy} (w : Word) (h : t.signed = false) :
    t.ofReg w = ((w.toNat % 2 ^ t.bits : Nat) : Int) := by
  simp [ofReg, h]

theorem ofReg_signed {t : IntTy} (w : Word) (h : t.signed = true) :
    t.ofReg w = if w.toNat % 2 ^ t.bits < 2 ^ (t.bits - 1) then ((w.toNat % 2 ^ t.bits : Nat) : Int)
      else ((w.toNat % 2 ^ t.bits : Nat) : Int) - 2 ^ t.bits := by
  have hpow : 2 ^ t.bits = 2 * 2 ^ (t.bits - 1) := (mul_pow_sub_one t.bits_pos.ne' 2).symm
  have hhalf : 2 * (w.toNat % 2 ^ t.bits) < 2 ^ t.bits ↔ w.toNat % 2 ^ t.bits < 2 ^ (t.bits - 1) := by omega
  simp [ofReg, h, BitVec.toInt_eq_toNat_cond, hhalf]

theorem signed_eq_false : ∀ t ∈ [u8, u16, u32, u64], t.signed = false := by decide

theorem signed_eq_true : ∀ t ∈ [i8, i16, i32, i64], t.signed = true := by decide

end IntTy

/-- Settles O41: the low N bits as a number, wrapped at the sign bit for a signed type. -/
theorem rangeOperandsReadTheLowBits : Obligations.RangeOperandsReadTheLowBits := fun t w =>
  ⟨fun ht => t.ofReg_unsigned w (t.signed_eq_false ht), fun ht => t.ofReg_signed w (t.signed_eq_true ht)⟩

end Sys2Proof.Machine

/-! # Draw's state update (spec/41_generator.md R120): linear over GF(2) and invertible -/

namespace Sys2Proof.Machine

/-! ### Exclusive or of states -/

@[simp] theorem Words.xor_zero (g : Words) : g.xor Words.zero = g := by
  simp [Words.xor, Words.zero]

@[simp] theorem Words.zero_xor (g : Words) : Words.zero.xor g = g := by
  simp [Words.xor, Words.zero]

theorem Words.xor_comm (a b : Words) : a.xor b = b.xor a := by
  simp [Words.xor, BitVec.xor_comm]

theorem Words.xor_assoc (a b c : Words) : (a.xor b).xor c = a.xor (b.xor c) := by
  simp [Words.xor, BitVec.xor_assoc]

theorem Words.xor_xor_xor_comm (a b c d : Words) : (a.xor b).xor (c.xor d) = (a.xor c).xor (b.xor d) := by
  rw [Words.xor_assoc, ← Words.xor_assoc b, Words.xor_comm b, Words.xor_assoc c, ← Words.xor_assoc]

/-! ### Rotations -/

theorem rotl64_eq_rotateLeft (a : Word) {k : Nat} (h : k < 64) : rotl64 a k = a.rotateLeft k := by
  rw [BitVec.rotateLeft_def, Nat.mod_eq_of_lt h, rotl64]

theorem rotl64_xor (a b : Word) {k : Nat} (h : k < 64) : rotl64 (a ^^^ b) k = rotl64 a k ^^^ rotl64 b k := by
  simp only [rotl64_eq_rotateLeft _ h]
  ext i hi
  simp only [BitVec.getElem_rotateLeft, BitVec.getElem_xor]
  split <;> rfl

theorem rotateRight_rotl64 (a : Word) {k : Nat} (h : k < 64) : (rotl64 a k).rotateRight k = a := by
  rw [rotl64_eq_rotateLeft _ h]
  ext i hi
  simp only [BitVec.getElem_rotateRight, BitVec.getElem_rotateLeft, Nat.mod_eq_of_lt h]
  grind

theorem rotl64_rotateRight (a : Word) {k : Nat} (h : k < 64) : rotl64 (a.rotateRight k) k = a := by
  rw [rotl64_eq_rotateLeft _ h]
  ext i hi
  simp only [BitVec.getElem_rotateRight, BitVec.getElem_rotateLeft, Nat.mod_eq_of_lt h]
  grind

/-! ### The update and its inverse -/

theorem drawNext_eq (g : Words) : drawNext g =
    ⟨g.s0 ^^^ (g.s3 ^^^ g.s1), g.s1 ^^^ (g.s2 ^^^ g.s0), g.s2 ^^^ g.s0 ^^^ g.s1 <<< 17, rotl64 (g.s3 ^^^ g.s1) 45⟩ := rfl

theorem xor_xor_xor_comm {w : Nat} (a b c d : BitVec w) : (a ^^^ b) ^^^ (c ^^^ d) = (a ^^^ c) ^^^ (b ^^^ d) := by
  ac_rfl

theorem drawNext_xor (a b : Words) : drawNext (a.xor b) = (drawNext a).xor (drawNext b) := by
  simp only [drawNext_eq, Words.xor, BitVec.shiftLeft_xor_distrib, rotl64_xor _ _ (show 45 < 64 by decide),
    xor_xor_xor_comm]

@[simp] theorem drawNext_zero : drawNext Words.zero = Words.zero := by decide

/-- The inverse of `x ^ (x << 17)`: the sum of the shifts by the multiples of 17 below 64. -/
def unshift17 (x : Word) : Word := x ^^^ x <<< 17 ^^^ x <<< 34 ^^^ x <<< 51

theorem unshift17_xor_shiftLeft (x : Word) : unshift17 (x ^^^ x <<< 17) = x := by
  simp [unshift17, BitVec.shiftLeft_xor_distrib, ← BitVec.shiftLeft_add, BitVec.xor_assoc]

theorem xor_shiftLeft_unshift17 (x : Word) : unshift17 x ^^^ unshift17 x <<< 17 = x := by
  simp [unshift17, BitVec.shiftLeft_xor_distrib, ← BitVec.shiftLeft_add, BitVec.xor_assoc]

/-- The state before an update: the last word gives back `s1 ^ s3`, and the two middle ones `s1 ^ (s1 << 17)`. -/
def drawPrev (g : Words) : Words :=
  let u := g.s3.rotateRight 45
  let s0 := g.s0 ^^^ u
  let s1 := unshift17 (g.s1 ^^^ g.s2)
  ⟨s0, s1, g.s1 ^^^ s1 ^^^ s0, u ^^^ s1⟩

theorem drawPrev_drawNext (g : Words) : drawPrev (drawNext g) = g := by
  obtain ⟨a, b, c, d⟩ := g
  have hs1 : unshift17 (b ^^^ (c ^^^ a) ^^^ (c ^^^ a ^^^ b <<< 17)) = b := by
    rw [BitVec.xor_assoc b, ← BitVec.xor_assoc (c ^^^ a), BitVec.xor_self, BitVec.zero_xor, unshift17_xor_shiftLeft]
  simp [drawPrev, drawNext_eq, rotateRight_rotl64, hs1]

theorem drawNext_drawPrev (g : Words) : drawNext (drawPrev g) = g := by
  obtain ⟨a, b, c, d⟩ := g
  have hs1 := xor_shiftLeft_unshift17 (b ^^^ c)
  simp [drawPrev, drawNext_eq, rotl64_rotateRight, BitVec.xor_assoc, hs1]

theorem drawNext_injective : Function.Injective drawNext :=
  Function.LeftInverse.injective drawPrev_drawNext

theorem drawNext_ne_zero {g : Words} (h : g ≠ Words.zero) : drawNext g ≠ Words.zero := fun h0 =>
  h (drawNext_injective (h0.trans drawNext_zero.symm))

/-- Settles O31: linear word by word, and invertible by `drawPrev`. -/
theorem drawUpdateIsLinearAndInvertible : Obligations.DrawUpdateIsLinearAndInvertible :=
  ⟨drawNext_xor, ⟨drawNext_injective, Function.RightInverse.surjective drawNext_drawPrev⟩, fun _ => drawNext_ne_zero⟩

end Sys2Proof.Machine

/-! # The words a host reads, and the reset state (spec/10_state.md R27, R30; spec/70_reset_and_hazards.md R230) -/

namespace Sys2Proof.Machine

/-! ### ID -/

theorem nctx_le_of_legal {p : Params} (h : p.legal = true) : p.nctx ≤ 16 := by
  obtain ⟨-, hn, -⟩ := of_decide_eq_true h
  exact hn

theorem outbufBytes_le_of_legal {p : Params} (h : p.legal = true) : p.outbufBytes ≤ 2048 := by
  obtain ⟨-, -, -, -, hb, -⟩ := of_decide_eq_true h
  exact hb

/-- Settles O20: each field is a part of the word, and legal parameters fit their fields. -/
theorem idFields : Obligations.IdFields := by
  refine ⟨fun p hp => ?_, by decide⟩
  have hn := nctx_le_of_legal hp
  have hb := outbufBytes_le_of_legal hp
  unfold idWord
  refine ⟨?_, ?_, ?_, ?_⟩
  · iterate 2 rw [BitVec.extractLsb'_append_eq_of_le (by decide)]
    exact BitVec.extractLsb'_append_eq_left
  · iterate 2 rw [BitVec.extractLsb'_append_eq_of_le (by decide)]
    exact BitVec.extractLsb'_append_eq_right
  · rw [BitVec.extractLsb'_append_eq_of_le (by decide)]
    exact (congrArg BitVec.toNat BitVec.extractLsb'_append_eq_right).trans (Nat.mod_eq_of_lt (by omega))
  · rw [BitVec.extractLsb'_append_eq_right]
    exact Nat.mod_eq_of_lt (by omega)

/-! ### STATUS -/

/-- The SEEDED number has the bit of context `c` at position `c`, and 0 where there is no context. -/
theorem testBit_seededNat (gs : List GenCtx) (c : Nat) :
    (seededNat gs).testBit c = (gs.getD c GenCtx.unseeded).seeded := by
  induction gs generalizing c with
  | nil => simp [seededNat, GenCtx.unseeded]
  | cons g rest ih =>
    cases c with
    | zero => cases hg : g.seeded <;> simp [seededNat, hg]
    | succ c =>
      have hhalf : (g.seeded.toNat + 2 * seededNat rest) / 2 = seededNat rest := by
        have := g.seeded.toNat_lt
        omega
      simp [seededNat, Nat.testBit_succ, hhalf, ih]

theorem extractLsb'_statusWord_seeded (s : State) :
    (statusWord s).extractLsb' 32 16 = BitVec.ofNat 16 (seededNat s.contexts) := by
  unfold statusWord
  iterate 6 rw [BitVec.extractLsb'_append_eq_of_le (by decide)]
  exact BitVec.extractLsb'_append_eq_right

theorem getLsbD_statusWord_seeded (s : State) {c : Nat} (h : c < 16) : (statusWord s).getLsbD (32 + c) = s.seeded c := by
  have hfield : ((statusWord s).extractLsb' 32 16).getLsbD c = s.seeded c := by
    rw [extractLsb'_statusWord_seeded, BitVec.getLsbD_ofNat, testBit_seededNat, decide_eq_true h, Bool.true_and]
    rfl
  rwa [BitVec.getLsbD_extractLsb', decide_eq_true h, Bool.true_and] at hfield

/-- Settles O19: each field is a part of the word. -/
theorem statusFields : Obligations.StatusFields := by
  intro s _
  refine ⟨?_, ?_, ?_, ?_, ?_, ?_, fun c => getLsbD_statusWord_seeded s, ?_⟩
  all_goals unfold statusWord
  · rw [BitVec.getLsbD_append]
    simp
  · iterate 2 rw [BitVec.getLsbD_append]
    simp
  · iterate 3 rw [BitVec.getLsbD_append]
    simp
  · iterate 3 rw [BitVec.extractLsb'_append_eq_of_le (by decide)]
    exact BitVec.extractLsb'_append_eq_right
  · iterate 4 rw [BitVec.extractLsb'_append_eq_of_le (by decide)]
    exact BitVec.extractLsb'_append_eq_right
  · iterate 5 rw [BitVec.extractLsb'_append_eq_of_le (by decide)]
    exact BitVec.extractLsb'_append_eq_right
  · iterate 7 rw [BitVec.extractLsb'_append_eq_of_le (by decide)]
    rfl

/-! ### The reset state -/

/-- A reset block is well formed for every legal choice of the parameters. -/
theorem resetBlock_inv {s : State} (h : s.cfg.legal = true) : (resetBlock s).Inv where
  paramsLegal := h
  contextCount := by simp
  busyLatch := rfl
  doneIdle := nofun
  faultCode := by simp
  outbufForm := Memory.nil_wf
  outbufSize := by simp [Memory.within]
  latchChecked := nofun

theorem resetBlock_seededNonZero (s : State) : (resetBlock s).SeededNonZero := by
  intro g hg hseeded
  rw [resetBlock_contexts] at hg
  rw [List.eq_of_mem_replicate hg] at hseeded
  cases hseeded

/-- Settles O55: `State.reset` is a block that has just been reset, in the reference configuration. -/
theorem resetIsWellFormed : Obligations.ResetIsWellFormed :=
  ⟨resetBlock_inv (s := State.reset) (by decide), resetBlock_seededNonZero State.reset⟩

end Sys2Proof.Machine

/-! # What every step keeps: the invariant of the block (spec/10_state.md R21 to R36) -/

namespace Sys2Proof.Machine

/-! ### A command as its issue step and its completion -/

theorem issue_of_accepts {i : Instr} {s : State} (h : accepts i s = true) : issue (some i) s = accept i s := by
  obtain ⟨hf, hb, hc⟩ := (accepts_iff i s).1 h
  simp [issue, issueFault, hf, hb, hc]

theorem completionTurn_accept (i : Instr) (s : State) :
    completionTurn (accept i s) = (completionOf i s.args (accept i s)).getD (accept i s) :=
  completionTurn_inFlight (accept_latch s i)

/-- A property that the issue step establishes and the completion turn keeps holds after a command. -/
theorem runCommand_induction {P : State → Prop} {i : Instr} {s : State} (hissue : P (issue (some i) s))
    (hturn : ∀ t, P t → P (completionTurn t)) : P (runCommand i (completionOf i) s) := by
  cases h : accepts i s with
  | false => rwa [runCommand_rejected _ h]
  | true =>
    rw [runCommand_accepted _ h, ← completionTurn_accept]
    exact hturn _ (issue_of_accepts h ▸ hissue)

/-- A command that does not complete is ignored, faults, or stays in flight. -/
theorem runCommand_cases (i : Instr) (s : State) :
    runCommand i (completionOf i) s = s ∨ (∃ code, runCommand i (completionOf i) s = raiseFault code s) ∨
      runCommand i (completionOf i) s = accept i s ∨ Completes i (accept i s) (runCommand i (completionOf i) s) := by
  cases h : accepts i s with
  | false =>
    rw [runCommand_rejected _ h]
    rcases issue_cases (some i) s with ⟨-, he⟩ | ⟨code, -, -, he⟩ | ⟨_, ⟨⟩, hf, hi, -⟩
    · exact .inl he
    · exact .inr (.inl ⟨code, he⟩)
    · simp [accepts, hf, hi] at h
  | true =>
    rw [runCommand_accepted _ h]
    cases ht : completionOf i s.args (accept i s) with
    | none => exact .inr (.inr (.inl rfl))
    | some t => exact .inr (.inr (.inr (completionOf_completes ht)))

/-! ### One induction for every invariant -/

/-- A property of the block that no move at its ports disturbs, and that resets, issue steps and completion turns keep, is
kept by every step. -/
theorem step_keeps {P : State → Prop}
    (hports : ∀ s args entropy agenda response freeCount, P s →
      P { s with args := args, entropy := entropy, agenda := agenda, response := response, freeCount := freeCount })
    (hreset : ∀ s, P s → P (resetBlock s)) (hissue : ∀ cmd s, P s → P (issue cmd s))
    (hturn : ∀ s, P s → P (completionTurn s)) {s t : State} (hs : P s) (h : step s = .next t) : P t := by
  have hrespond : ∀ r s, P s → P (respond r s) := fun r s => hports s s.args s.entropy s.agenda r s.freeCount
  have hs' : P { s with agenda := s.agenda.tail } := hports s s.args s.entropy s.agenda.tail s.response s.freeCount hs
  cases step_cases h with
  | quiet r n h => rw [h]; exact hports s s.args s.entropy s.agenda.tail r n hs
  | reset r h => exact h ▸ hrespond r _ (hreset _ hs')
  | arg r i v h => rw [h]; exact hports s (s.args.set i v) s.entropy s.agenda.tail r s.freeCount hs
  | issue r cmd h => exact h ▸ hrespond r _ (hissue cmd _ hs')
  | command i h => exact h ▸ runCommand_induction (hissue _ _ hs') hturn
  | complete h => exact h ▸ hturn _ hs'
  | entropy v h => rw [h]; exact hports s s.args (s.entropy ++ [v]) s.agenda.tail s.response s.freeCount hs

/-! ### Every fault raised has a code -/

theorem emptyRangeCheck_ne_none (t : IntTy) (lx ux : Bool) (a : Args) : emptyRangeCheck t lx ux a ≠ some .none := by
  unfold emptyRangeCheck
  split <;> nofun

theorem intervalCheck_ne_none (f : FloatFmt) (a : Args) : intervalCheck f a ≠ some .none := by
  unfold intervalCheck
  split <;> nofun

theorem fillCheck_ne_none (p : Params) (a : Args) : fillCheck p a ≠ some .none := by
  unfold fillCheck
  split <;> nofun

theorem operandFault_ne_none (p : Params) (a : Args) (i : Instr) : operandFault p a i ≠ some .none := by
  cases i
  case rangeF32 | rangeF64 => exact intervalCheck_ne_none _ a
  case fill => exact fillCheck_ne_none p a
  case rangeU8 | rangeU16 | rangeU32 | rangeU64 | rangeI8 | rangeI16 | rangeI32 | rangeI64 =>
    exact emptyRangeCheck_ne_none _ _ _ a
  all_goals nofun

theorem issueFault_ne_none (cmd : Option Instr) (s : State) : issueFault cmd s ≠ some .none := by
  unfold issueFault
  split
  · nofun
  · cases cmd with
    | none => nofun
    | some i =>
      show checkFault i s ≠ some .none
      unfold checkFault
      split
      · nofun
      · split
        · nofun
        · exact operandFault_ne_none _ _ i

/-! ### The invariant -/

theorem inv_ports {s : State} (h : s.Inv) (args : Args) (entropy : List Word) (agenda : List Event) (response : Response)
    (freeCount : Nat) : State.Inv
      { s with args := args, entropy := entropy, agenda := agenda, response := response, freeCount := freeCount } :=
  ⟨h.paramsLegal, h.contextCount, h.busyLatch, h.doneIdle, h.faultCode, h.outbufForm, h.outbufSize, h.latchChecked⟩

theorem raiseFault_inv {s : State} (h : s.Inv) {code : FaultCode} (hcode : code ≠ .none) : (raiseFault code s).Inv where
  paramsLegal := h.paramsLegal
  contextCount := h.contextCount
  busyLatch := h.busyLatch
  doneIdle := nofun
  faultCode := by simp [hcode]
  outbufForm := h.outbufForm
  outbufSize := h.outbufSize
  latchChecked := h.latchChecked

theorem accept_inv {s : State} (h : s.Inv) {i : Instr} (hi : checkFault i s = none) : (accept i s).Inv where
  paramsLegal := h.paramsLegal
  contextCount := h.contextCount
  busyLatch := rfl
  doneIdle := nofun
  faultCode := h.faultCode
  outbufForm := h.outbufForm
  outbufSize := h.outbufSize
  latchChecked l hl := by
    obtain rfl : ⟨i, s.args⟩ = l := Option.some.inj hl
    exact (checkFault_none_iff i s).1 hi

theorem issue_inv (cmd : Option Instr) {s : State} (h : s.Inv) : (issue cmd s).Inv := by
  rcases issue_cases cmd s with ⟨-, he⟩ | ⟨code, -, hi, he⟩ | ⟨i, rfl, hf, hi, he⟩ <;> rw [he]
  · exact h
  · refine raiseFault_inv h ?_
    rintro rfl
    exact issueFault_ne_none cmd s hi
  · obtain ⟨-, -, hcheck⟩ := (accepts_iff i s).1 (by simp [accepts, hf, hi])
    exact accept_inv h hcheck

theorem le_of_fillCheck {p : Params} {a : Args} (h : fillCheck p a = none) : a.a0.toNat ≤ p.outbufBytes := by
  unfold fillCheck at h
  split at h
  · cases h
  · omega

/-- Only a FILL touches OUTBUF, and a FILL that passed its check keeps it canonical and within its size. -/
theorem completionOf_outbuf {i : Instr} {a : Args} {s t : State} (h : completionOf i a s = some t) (hs : s.Inv)
    (hcheck : operandFault s.cfg a i = none) : t.outbuf.wf ∧ t.outbuf.within s.cfg.outbufBytes := by
  by_cases hfill : ∃ c, i = .fill c
  · obtain ⟨c, rfl⟩ := hfill
    cases h
    exact ⟨fillLoop_wf _ _ _ _ hs.outbufForm, fillLoop_within _ _ _ (le_of_fillCheck hcheck) hs.outbufSize⟩
  · obtain ⟨g, r0, r1, d, m, e, rfl, -, hm, -⟩ := (completionOf_completes h).shape
    obtain rfl : m = s.outbuf := hm (not_exists.1 hfill)
    exact ⟨hs.outbufForm, hs.outbufSize⟩

theorem completionOf_inv {i : Instr} {a : Args} {s t : State} (h : completionOf i a s = some t) (hs : s.Inv)
    (hcheck : operandFault s.cfg a i = none) : t.Inv := by
  obtain ⟨hwf, hwithin⟩ := completionOf_outbuf h hs hcheck
  obtain ⟨g, r0, r1, d, m, e, rfl, -, -, -⟩ := (completionOf_completes h).shape
  exact {
    paramsLegal := hs.paramsLegal
    contextCount := (List.length_set ..).trans hs.contextCount
    busyLatch := rfl
    doneIdle := fun _ => rfl
    faultCode := hs.faultCode
    outbufForm := hwf
    outbufSize := hwithin
    latchChecked := nofun }

theorem completionTurn_inv {s : State} (h : s.Inv) : (completionTurn s).Inv := by
  rcases completionTurn_cases s with he | ⟨l, t, hl, ht, he⟩ <;> rw [he]
  · exact h
  · obtain ⟨-, -, hcheck⟩ := h.latchChecked l hl
    exact completionOf_inv ht h hcheck

/-- Settles O56: resets, issue steps and completion turns keep the invariant, and no other move touches what it speaks of. -/
theorem everyStepKeepsTheBlockWellFormed : Obligations.EveryStepKeepsTheBlockWellFormed := fun _ _ =>
  step_keeps (P := State.Inv) (fun _ a e es r n h => inv_ports h a e es r n) (fun _ h => resetBlock_inv h.paramsLegal)
    (fun cmd _ => issue_inv cmd) fun _ => completionTurn_inv

/-! ### The frame of every command -/

theorem getD_set (gs : List GenCtx) (d c : Nat) (g : GenCtx) :
    (gs.set d g).getD c GenCtx.unseeded = if c = d ∧ d < gs.length then g else gs.getD c GenCtx.unseeded := by
  rw [List.getD_eq_getElem?_getD, List.getD_eq_getElem?_getD, List.getElem?_set]
  grind

/-- Settles O58: a command that completes has the shape `Completes`, and one that does not touches no context. -/
theorem commandsTouchOnlyTheirContext : Obligations.CommandsTouchOnlyTheirContext := by
  intro i s t h
  rw [exec_eq] at h
  cases h
  rcases runCommand_cases i s with he | ⟨code, he⟩ | he | hc
  case inr.inr.inr =>
    obtain ⟨g, r0, r1, d, m, e, he, -, hm, hent⟩ := hc.shape
    rw [he]
    refine ⟨fun c hne => ?_, List.length_set .., rfl, rfl, rfl, rfl, rfl, fun hi k => ?_, hent⟩
    · exact (getD_set s.contexts (target i) c g).trans (if_neg fun h => hne h.1)
    · exact congrArg (Memory.read · k) (hm hi)
  all_goals
    rw [he]
    exact ⟨fun _ _ => rfl, rfl, rfl, rfl, rfl, rfl, rfl, fun _ _ => rfl, fun _ => rfl⟩

/-! ### SEEDED bits -/

/-- Every context that is seeded in `s` is seeded in `t`. -/
def KeepsSeeded (s t : State) : Prop := ∀ c, s.seeded c = true → t.seeded c = true

theorem keepsSeeded_of_contexts_eq {s t : State} (h : t.contexts = s.contexts) : KeepsSeeded s t := by
  intro c hc
  rwa [State.seeded, State.ctx, h]

theorem issue_contexts (cmd : Option Instr) (s : State) : (issue cmd s).contexts = s.contexts := by
  rcases issue_cases cmd s with ⟨-, he⟩ | ⟨code, -, -, he⟩ | ⟨i, -, -, -, he⟩ <;> rw [he] <;> rfl

theorem completionOf_keepsSeeded {i : Instr} {a : Args} {s t : State} (h : completionOf i a s = some t) :
    KeepsSeeded s t := by
  obtain ⟨g, r0, r1, d, m, e, rfl, hg, -, -⟩ := (completionOf_completes h).shape
  intro c hc
  show ((s.contexts.set (target i) g).getD c GenCtx.unseeded).seeded = true
  rw [getD_set]
  split
  · rename_i hcd
    obtain ⟨rfl, -⟩ := hcd
    exact hg.elim id fun hg => hg.trans hc
  · exact hc

theorem completionTurn_keepsSeeded (s : State) : KeepsSeeded s (completionTurn s) := by
  rcases completionTurn_cases s with he | ⟨l, t, -, ht, he⟩ <;> rw [he]
  · exact fun _ => id
  · exact completionOf_keepsSeeded ht

theorem runCommand_keepsSeeded (i : Instr) (s : State) : KeepsSeeded s (runCommand i (completionOf i) s) :=
  runCommand_induction (P := KeepsSeeded s) (keepsSeeded_of_contexts_eq (issue_contexts _ s)) fun t ht c hc =>
    completionTurn_keepsSeeded t c (ht c hc)

theorem memRead_contexts (off n : Nat) (s : State) : (memRead off n s).contexts = s.contexts := by
  unfold memRead
  split_ifs <;> rfl

/-- A write that is no soft reset leaves the contexts alone. -/
theorem memWrite_contexts {off n : Nat} {v : Word} (h : ¬ (off = 0x008 ∧ n = 8 ∧ v.getLsbD 0 = true)) (s : State) :
    (memWrite off n v s).contexts = s.contexts := by
  unfold memWrite
  cases hadm : admitted off n with
  | false => rfl
  | true =>
    obtain ⟨-, -, hn⟩ := of_decide_eq_true hadm
    show (writeEffect off v s).contexts = s.contexts
    unfold writeEffect
    split
    · rename_i hoff
      rw [if_neg fun hv => h ⟨hoff, hn (by omega), hv⟩]
    · split
      · exact issue_contexts _ s
      · split <;> rfl

theorem windowOffset_eq_some {p : Params} {addr off : Nat} (h : windowOffset p addr = some off) : addr = p.base + off := by
  unfold windowOffset at h
  split at h
  · cases h; omega
  · cases h

/-- An 8-byte write to CTRL with bit 0 set is a soft reset. -/
theorem busWrite_ctrl (s : State) {v : Word} (h : v.getLsbD 0 = true) :
    busWrite (s.cfg.base + 0x008) 8 v s = .next (respond .ack (resetBlock s)) := by
  unfold busWrite
  rw [windowOffset_base_add s.cfg (by decide)]
  show Host.Outcome.next (respond .ack (if v.getLsbD 0 then resetBlock s else s)) = _
  rw [if_pos h]

theorem resetBlock_seeded (s : State) (c : Nat) : (resetBlock s).seeded c = false := by
  unfold State.seeded State.ctx
  rw [resetBlock_contexts, List.getD_eq_getElem?_getD, List.getElem?_replicate]
  split <;> rfl

theorem move_seeded_of_resets {e : Event} {s t : State} (h : move e s = .next t) (he : e.Resets s.cfg) (c : Nat) :
    t.seeded c = false := by
  rcases he with rfl | ⟨v, hv, rfl⟩
  · cases h
    exact resetBlock_seeded s c
  · cases (busWrite_ctrl s hv).symm.trans h
    exact resetBlock_seeded s c

theorem move_keepsSeeded {e : Event} {s t : State} (h : move e s = .next t) (he : ¬ e.Resets s.cfg) : KeepsSeeded s t := by
  cases e with
  | read addr n =>
    simp only [move, busRead] at h
    split at h
    · cases h
    · cases h
      exact keepsSeeded_of_contexts_eq (memRead_contexts _ n s)
  | write addr n v =>
    simp only [move, busWrite] at h
    split at h
    · cases h
    · rename_i off hoff
      cases h
      refine keepsSeeded_of_contexts_eq (memWrite_contexts ?_ s)
      rintro ⟨rfl, rfl, hv⟩
      exact he (.inr ⟨v, hv, by rw [windowOffset_eq_some hoff]⟩)
  | command w =>
    cases hd : decode w with
    | ok i =>
      rw [move, commandWord_ok s hd, exec_eq] at h
      cases h
      exact runCommand_keepsSeeded i s
    | error r =>
      rw [move, commandWord_error s hd] at h
      cases h
      exact keepsSeeded_of_contexts_eq (issue_contexts none s)
  | complete => cases h; exact completionTurn_keepsSeeded s
  | entropy v => cases h; exact keepsSeeded_of_contexts_eq rfl
  | hardReset => exact absurd (.inl rfl) he

/-- Settles O15: a reset leaves fresh contexts, and no other move takes a SEEDED bit away. -/
theorem onlyAResetClearsSeeded : Obligations.OnlyAResetClearsSeeded := by
  intro s t c h
  refine ⟨fun ⟨e, rest, ha, he⟩ => ?_, fun hno hc => ?_⟩
  · rw [step_cons ha] at h
    exact move_seeded_of_resets h he c
  · cases ha : s.agenda with
    | nil =>
      rw [step_nil ha] at h
      cases h
      exact completionTurn_keepsSeeded s c hc
    | cons e rest =>
      rw [step_cons ha] at h
      exact move_keepsSeeded h (hno e rest ha) c hc

end Sys2Proof.Machine

/-! # The jump polynomials are x^(2^128) and x^(2^192) modulo the polynomial of the update (spec/41_generator.md R122, R126)

A polynomial over GF(2) is the number whose bit n is the coefficient of x^n, and x stands for Draw's state update. -/

namespace Sys2Proof.Machine

/-! ### The state after some draws -/

theorem wordsAfter_succ (k : Nat) (g : Words) : wordsAfter (k + 1) g = drawNext (wordsAfter k g) :=
  Function.iterate_succ_apply' drawNext k g

theorem wordsAfter_add (j k : Nat) (g : Words) : wordsAfter (j + k) g = wordsAfter j (wordsAfter k g) :=
  Function.iterate_add_apply drawNext j k g

theorem wordsAfter_injective (k : Nat) : Function.Injective (wordsAfter k) := drawNext_injective.iterate k

theorem wordsAfter_zero_words (k : Nat) : wordsAfter k Words.zero = Words.zero :=
  Function.iterate_fixed drawNext_zero k

theorem wordsAfter_ne_zero (k : Nat) {g : Words} (h : g ≠ Words.zero) : wordsAfter k g ≠ Words.zero := fun h0 =>
  h (wordsAfter_injective k (h0.trans (wordsAfter_zero_words k).symm))

theorem wordsAfter_xor (k : Nat) (a b : Words) : wordsAfter k (a.xor b) = (wordsAfter k a).xor (wordsAfter k b) := by
  induction k with
  | zero => rfl
  | succ k ih => rw [wordsAfter_succ, ih, drawNext_xor, ← wordsAfter_succ, ← wordsAfter_succ]

/-! ### Sums of states along a stream -/

/-- The words `g` if `b` is set, else zero. -/
def Words.select (b : Bool) (g : Words) : Words := if b then g else Words.zero

@[simp] theorem Words.select_true (g : Words) : Words.select true g = g := rfl

@[simp] theorem Words.select_false (g : Words) : Words.select false g = Words.zero := rfl

theorem Words.select_xor (b : Bool) (g h : Words) :
    Words.select b (g.xor h) = (Words.select b g).xor (Words.select b h) := by
  cases b <;> simp

theorem Words.select_xor_bit (b c : Bool) (g : Words) :
    Words.select (b ^^ c) g = (Words.select b g).xor (Words.select c g) := by
  cases b <;> cases c <;> simp [Words.xor, Words.zero]

theorem drawNext_select (b : Bool) (g : Words) : drawNext (Words.select b g) = Words.select b (drawNext g) := by
  cases b <;> simp

/-- The exclusive or of the states after k draws from `g`, over the k below `n` that `p` holds of. -/
def sumStates (p : Nat → Bool) (g : Words) : Nat → Words
  | 0 => Words.zero
  | n + 1 => (sumStates p g n).xor (Words.select (p n) (wordsAfter n g))

theorem sumStates_succ (p : Nat → Bool) (g : Words) (n : Nat) :
    sumStates p g (n + 1) = (sumStates p g n).xor (Words.select (p n) (wordsAfter n g)) := rfl

theorem sumStates_congr {p q : Nat → Bool} {n : Nat} (g : Words) (h : ∀ k < n, p k = q k) :
    sumStates p g n = sumStates q g n := by
  induction n with
  | zero => rfl
  | succ n ih => rw [sumStates_succ, sumStates_succ, ih fun k hk => h k (by omega), h n (by omega)]

theorem sumStates_xor_words (p : Nat → Bool) (a b : Words) (n : Nat) :
    sumStates p (a.xor b) n = (sumStates p a n).xor (sumStates p b n) := by
  induction n with
  | zero => exact (Words.xor_zero Words.zero).symm
  | succ n ih => simp only [sumStates_succ, ih, wordsAfter_xor, Words.select_xor, Words.xor_xor_xor_comm]

theorem sumStates_xor_bits (p q : Nat → Bool) (g : Words) (n : Nat) :
    sumStates (fun k => p k ^^ q k) g n = (sumStates p g n).xor (sumStates q g n) := by
  induction n with
  | zero => exact (Words.xor_zero Words.zero).symm
  | succ n ih => simp only [sumStates_succ, ih, Words.select_xor_bit, Words.xor_xor_xor_comm]

theorem sumStates_zero_words (p : Nat → Bool) (n : Nat) : sumStates p Words.zero n = Words.zero := by
  induction n with
  | zero => rfl
  | succ n ih =>
    rw [sumStates_succ, ih, wordsAfter_zero_words, Words.zero_xor]
    cases p n <;> rfl

theorem sumStates_false (g : Words) (n : Nat) : sumStates (fun _ => false) g n = Words.zero := by
  induction n with
  | zero => rfl
  | succ n ih => rw [sumStates_succ, ih, Words.select_false, Words.xor_zero]

theorem sumStates_select (b : Bool) (p : Nat → Bool) (g : Words) (n : Nat) :
    sumStates (fun k => b && p k) g n = Words.select b (sumStates p g n) := by
  cases b with
  | true => rfl
  | false => exact sumStates_false g n

/-- Splitting off the lowest position leaves the update of a sum. -/
theorem sumStates_succ_low (p : Nat → Bool) (g : Words) (n : Nat) :
    sumStates p g (n + 1) = (Words.select (p 0) g).xor (drawNext (sumStates (fun k => p (k + 1)) g n)) := by
  induction n with
  | zero =>
    rw [sumStates_succ, Words.xor_comm]
    exact congrArg _ drawNext_zero.symm
  | succ n ih =>
    rw [sumStates_succ, ih, sumStates_succ, drawNext_xor, drawNext_select, ← wordsAfter_succ, Words.xor_assoc]

/-- JumpWith adds up the states at the set bits of its polynomial (R123). -/
theorem jumpWith_eq_sumStates (j g : Words) : jumpWith j g = sumStates (jumpBit j) g 256 := by
  have hfold : ∀ n, (List.range n).foldl (jumpStep j) (Words.zero, g) = (sumStates (jumpBit j) g n, wordsAfter n g) := by
    intro n
    induction n with
    | zero => rfl
    | succ n ih =>
      rw [List.range_succ, List.foldl_append, ih, sumStates_succ, wordsAfter_succ, List.foldl_cons, List.foldl_nil, jumpStep]
      cases jumpBit j n <;> simp [draw]
  rw [jumpWith, hfold]

/-! ### Polynomials modulo x^256 + drawPoly -/

/-- The polynomial of degree below 256 that the state update makes equal to x^256. -/
def drawPoly : Nat := 0x0003C03C3F3ECB1904B4EDCF26259F850280002BCEFD1A5E9D116F2BB0F0F001

/-- A polynomial of degree below 256 in the update, applied to the words `g`. -/
def applyPoly (P : Nat) (g : Words) : Words := sumStates P.testBit g 256

/-- x times a polynomial, reduced. -/
def timesX (P : Nat) : Nat := (2 * P % 2 ^ 256) ^^^ (P / 2 ^ 255 % 2 * drawPoly)

/-- The product of Q and the lowest `n` terms of P, reduced. -/
def polyMul (Q : Nat) : Nat → Nat → Nat
  | 0, _ => 0
  | n + 1, P => (P % 2 * Q) ^^^ timesX (polyMul Q n (P / 2))

/-- The square of a polynomial, reduced. -/
def polySquare (P : Nat) : Nat := polyMul P 256 P

theorem applyPoly_xor (P Q : Nat) (g : Words) : applyPoly (P ^^^ Q) g = (applyPoly P g).xor (applyPoly Q g) := by
  rw [applyPoly, sumStates_congr g fun k _ => Nat.testBit_xor P Q k, sumStates_xor_bits]
  rfl

theorem testBit_toNat_mul (b : Bool) (P k : Nat) : (b.toNat * P).testBit k = (b && P.testBit k) := by
  cases b <;> simp

theorem applyPoly_toNat_mul (b : Bool) (P : Nat) (g : Words) :
    applyPoly (b.toNat * P) g = Words.select b (applyPoly P g) := by
  rw [applyPoly, sumStates_congr g fun k _ => testBit_toNat_mul b P k, sumStates_select]
  rfl

theorem applyPoly_zero (g : Words) : applyPoly 0 g = Words.zero := applyPoly_toNat_mul false 0 g

theorem applyPoly_one (g : Words) : applyPoly 1 g = g := by
  rw [applyPoly, sumStates_succ_low]
  simp [Nat.testBit_succ, sumStates_false]

/-! ### The update satisfies its polynomial

Both sides of `applyPoly_drawPoly` are linear, so the 256 unit states decide it. They are run side by side: lane l of a
wide word is its bits 64l to 64l+63, and lane 64j + i holds the state whose only set bit is bit i of word j. -/

/-- The words with one set bit span the words. -/
theorem word_span {P : Word → Prop} (hzero : P 0#64) (hxor : ∀ a b, P a → P b → P (a ^^^ b))
    (hunit : ∀ i < 64, P (BitVec.twoPow 64 i)) (v : Word) : P v := by
  suffices hlow : ∀ n ≤ 64, ∀ v : Word, (∀ i, n ≤ i → v.getLsbD i = false) → P v from
    hlow 64 le_rfl v fun i hi => BitVec.getLsbD_of_ge v i hi
  intro n hn
  induction n with
  | zero =>
    intro v hv
    obtain rfl : v = 0#64 := BitVec.eq_of_getLsbD_eq fun i _ => by simp [hv i]
    exact hzero
  | succ n ih =>
    intro v hv
    cases hbit : v.getLsbD n with
    | false =>
      refine ih (by omega) v fun i hi => ?_
      rcases Nat.eq_or_lt_of_le hi with rfl | hi
      · exact hbit
      · exact hv i hi
    | true =>
      have hrest : P (v ^^^ BitVec.twoPow 64 n) := by
        refine ih (by omega) _ fun i hi => ?_
        rw [BitVec.getLsbD_xor, BitVec.getLsbD_twoPow]
        rcases Nat.eq_or_lt_of_le hi with rfl | hi
        · simp [hbit, show n < 64 by omega]
        · simp [hv i hi, Nat.ne_of_lt hi]
      simpa [BitVec.xor_assoc] using hxor _ _ hrest (hunit n (by omega))

/-- The state that holds `v` in word `j` and zeros elsewhere. -/
def wordAt (j : Nat) (v : Word) : Words :=
  ⟨if j = 0 then v else 0#64, if j = 1 then v else 0#64, if j = 2 then v else 0#64, if j = 3 then v else 0#64⟩

theorem wordAt_zero (j : Nat) : wordAt j 0#64 = Words.zero := by
  simp [wordAt, Words.zero]

theorem wordAt_xor (j : Nat) (a b : Word) : wordAt j (a ^^^ b) = (wordAt j a).xor (wordAt j b) := by
  have hsplit (k : Nat) : (if j = k then a ^^^ b else 0#64) = (if j = k then a else 0#64) ^^^ if j = k then b else 0#64 := by
    split <;> simp
  simp [wordAt, Words.xor, hsplit]

theorem words_eq_xor_wordAt (g : Words) :
    ((wordAt 0 g.s0).xor (wordAt 1 g.s1)).xor ((wordAt 2 g.s2).xor (wordAt 3 g.s3)) = g := by
  simp [wordAt, Words.xor]

/-- The unit states span the states. -/
theorem words_span {P : Words → Prop} (hzero : P Words.zero) (hxor : ∀ a b, P a → P b → P (a.xor b))
    (hunit : ∀ j < 4, ∀ i < 64, P (wordAt j (BitVec.twoPow 64 i))) (g : Words) : P g := by
  have hword : ∀ j < 4, ∀ v, P (wordAt j v) := fun j hj =>
    word_span (P := fun v => P (wordAt j v)) ((wordAt_zero j).symm ▸ hzero)
      (fun a b ha hb => (wordAt_xor j a b).symm ▸ hxor _ _ ha hb) (hunit j hj)
  rw [← words_eq_xor_wordAt g]
  exact hxor _ _ (hxor _ _ (hword 0 (by decide) _) (hword 1 (by decide) _))
    (hxor _ _ (hword 2 (by decide) _) (hword 3 (by decide) _))

/-- A word of each of 256 states. -/
abbrev WideWord := BitVec (64 * 256)

/-- Lane `l` of a wide word. -/
def lane (l : Nat) (x : WideWord) : Word := x.extractLsb' (64 * l) 64

/-- The bits of every lane from bit `k` on. -/
def highBits (k : Nat) : WideWord := (BitVec.allOnes 64 <<< k).replicate 256

/-- Every lane shifted left by `k`. -/
def laneShl (k : Nat) (x : WideWord) : WideWord := x <<< k &&& highBits k

/-- Every lane rotated left by `k`. -/
def laneRotl (k : Nat) (x : WideWord) : WideWord := laneShl k x ||| (x >>> (64 - k) &&& ~~~highBits k)

theorem getLsbD_highBits {l i : Nat} (k : Nat) (hl : l < 256) (hi : i < 64) :
    (highBits k).getLsbD (64 * l + i) = decide (k ≤ i) := by
  rw [highBits, BitVec.getLsbD_replicate, show (64 * l + i) % 64 = i by omega, BitVec.getLsbD_shiftLeft,
    BitVec.getLsbD_allOnes, decide_eq_true (show 64 * l + i < 64 * 256 by omega)]
  simp [hi, show i - k < 64 by omega, ← decide_not]

theorem lane_laneShl {l : Nat} (k : Nat) (hl : l < 256) (x : WideWord) : lane l (laneShl k x) = lane l x <<< k := by
  refine BitVec.eq_of_getLsbD_eq fun i hi => ?_
  rw [lane, BitVec.getLsbD_extractLsb', laneShl, BitVec.getLsbD_and, getLsbD_highBits k hl hi, BitVec.getLsbD_shiftLeft,
    BitVec.getLsbD_shiftLeft, lane, BitVec.getLsbD_extractLsb']
  by_cases hk : k ≤ i
  · simp [hk, hi, show 64 * l + i < 16384 by omega, show ¬ 64 * l + i < k by omega, show ¬ i < k by omega,
      show i - k < 64 by omega, show 64 * l + i - k = 64 * l + (i - k) by omega]
  · simp [hk, show i < k by omega]

theorem lane_laneRotl {l k : Nat} (hl : l < 256) (hk : k < 64) (x : WideWord) :
    lane l (laneRotl k x) = rotl64 (lane l x) k := by
  have hlow : lane l (x >>> (64 - k) &&& ~~~highBits k) = lane l x >>> (64 - k) := by
    refine BitVec.eq_of_getLsbD_eq fun i hi => ?_
    rw [lane, BitVec.getLsbD_extractLsb', BitVec.getLsbD_and, BitVec.getLsbD_not, getLsbD_highBits k hl hi,
      BitVec.getLsbD_ushiftRight, BitVec.getLsbD_ushiftRight, lane, BitVec.getLsbD_extractLsb']
    by_cases hik : k ≤ i
    · simp [hik, show ¬ 64 - k + i < 64 by omega]
    · simp [hik, hi, show 64 * l + i < 16384 by omega, show 64 - k + i < 64 by omega,
        show 64 - k + (64 * l + i) = 64 * l + (64 - k + i) by omega]
  rw [rotl64, ← hlow, ← lane_laneShl k hl]
  exact BitVec.extractLsb'_or

/-- 256 states side by side. -/
structure WideWords where
  s0 : WideWord
  s1 : WideWord
  s2 : WideWord
  s3 : WideWord

/-- The state in lane `l`. -/
def WideWords.state (L : WideWords) (l : Nat) : Words := ⟨lane l L.s0, lane l L.s1, lane l L.s2, lane l L.s3⟩

/-- The zero state in every lane. -/
def WideWords.zero : WideWords := ⟨0, 0, 0, 0⟩

/-- The exclusive or of every pair of states. -/
def WideWords.xor (L M : WideWords) : WideWords := ⟨L.s0 ^^^ M.s0, L.s1 ^^^ M.s1, L.s2 ^^^ M.s2, L.s3 ^^^ M.s3⟩

/-- The update of every state (R120). -/
def WideWords.next (L : WideWords) : WideWords :=
  ⟨L.s0 ^^^ (L.s3 ^^^ L.s1), L.s1 ^^^ (L.s2 ^^^ L.s0), L.s2 ^^^ L.s0 ^^^ laneShl 17 L.s1, laneRotl 45 (L.s3 ^^^ L.s1)⟩

/-- The sum over the positions below `n` of every state, and the states after `n` draws. -/
def WideWords.sums (p : Nat → Bool) (L : WideWords) : Nat → WideWords × WideWords
  | 0 => (WideWords.zero, L)
  | n + 1 => ((L.sums p n).1.xor (if p n then (L.sums p n).2 else WideWords.zero), (L.sums p n).2.next)

theorem lane_xor (l : Nat) (x y : WideWord) : lane l (x ^^^ y) = lane l x ^^^ lane l y := BitVec.extractLsb'_xor

theorem WideWords.state_zero (l : Nat) : WideWords.zero.state l = Words.zero := by
  simp [WideWords.state, WideWords.zero, lane, Words.zero]

theorem WideWords.state_xor (L M : WideWords) (l : Nat) : (L.xor M).state l = (L.state l).xor (M.state l) := by
  simp [WideWords.state, WideWords.xor, Words.xor, lane_xor]

theorem WideWords.state_next (L : WideWords) {l : Nat} (hl : l < 256) : L.next.state l = drawNext (L.state l) := by
  simp [WideWords.state, WideWords.next, drawNext_eq, lane_xor, lane_laneShl 17 hl, lane_laneRotl hl]

theorem WideWords.state_sums (p : Nat → Bool) (L : WideWords) {l : Nat} (hl : l < 256) (n : Nat) :
    (L.sums p n).1.state l = sumStates p (L.state l) n ∧ (L.sums p n).2.state l = wordsAfter n (L.state l) := by
  induction n with
  | zero => exact ⟨WideWords.state_zero l, rfl⟩
  | succ n ih =>
    obtain ⟨hsum, hafter⟩ := ih
    refine ⟨?_, ?_⟩
    · rw [WideWords.sums, WideWords.state_xor, hsum, sumStates_succ]
      cases p n
      · exact congrArg _ (WideWords.state_zero l)
      · exact congrArg _ hafter
    · rw [WideWords.sums, WideWords.state_next _ hl, hafter, wordsAfter_succ]

/-- The diagonal of word `k`: bit i of lane 64k + i, for i below 64. -/
def diagonal (k : Nat) : WideWord := BitVec.ofNat _ ((2 ^ 4160 - 1) / (2 ^ 65 - 1) * 2 ^ (4096 * k))

/-- The 256 unit states. -/
def unitStates : WideWords := ⟨diagonal 0, diagonal 1, diagonal 2, diagonal 3⟩

theorem state_unitStates : ∀ j < 4, ∀ i < 64, unitStates.state (64 * j + i) = wordAt j (BitVec.twoPow 64 i) := by decide +kernel

theorem sums_unitStates : (unitStates.sums drawPoly.testBit 256).1.s0 = (unitStates.sums drawPoly.testBit 256).2.s0 ∧
    (unitStates.sums drawPoly.testBit 256).1.s1 = (unitStates.sums drawPoly.testBit 256).2.s1 ∧
    (unitStates.sums drawPoly.testBit 256).1.s2 = (unitStates.sums drawPoly.testBit 256).2.s2 ∧
    (unitStates.sums drawPoly.testBit 256).1.s3 = (unitStates.sums drawPoly.testBit 256).2.s3 := by
  decide +kernel

/-- The update satisfies x^256 = drawPoly. -/
theorem applyPoly_drawPoly (g : Words) : applyPoly drawPoly g = wordsAfter 256 g := by
  refine words_span (P := fun g => applyPoly drawPoly g = wordsAfter 256 g) ?_ (fun a b ha hb => ?_)
    (fun j hj i hi => ?_) g
  · exact (sumStates_zero_words _ _).trans (wordsAfter_zero_words 256).symm
  · rw [applyPoly, sumStates_xor_words, wordsAfter_xor, ← ha, ← hb]; rfl
  · obtain ⟨hsum, hafter⟩ := unitStates.state_sums drawPoly.testBit (show 64 * j + i < 256 by omega) 256
    obtain ⟨h0, h1, h2, h3⟩ := sums_unitStates
    rw [← state_unitStates j hj i hi, applyPoly, ← hsum, ← hafter, WideWords.state, WideWords.state, h0, h1, h2, h3]

/-! ### The powers of x -/

theorem testBit_two_mul_succ (P k : Nat) : (2 * P).testBit (k + 1) = P.testBit k := by
  rw [Nat.testBit_succ, Nat.mul_div_cancel_left P (by decide)]

theorem applyPoly_timesX (P : Nat) (g : Words) : applyPoly (timesX P) g = drawNext (applyPoly P g) := by
  have hshift : sumStates (2 * P).testBit g 257 = drawNext (applyPoly P g) := by
    rw [sumStates_succ_low]
    simp only [testBit_two_mul_succ]
    simp [applyPoly]
  have hmod : applyPoly (2 * P % 2 ^ 256) g = sumStates (2 * P).testBit g 256 :=
    sumStates_congr g fun k hk => by rw [Nat.testBit_mod_two_pow, decide_eq_true hk, Bool.true_and]
  rw [timesX, applyPoly_xor, hmod, ← Nat.toNat_testBit, applyPoly_toNat_mul, applyPoly_drawPoly, ← hshift,
    sumStates_succ _ g 256, testBit_two_mul_succ]

theorem applyPoly_polyMul (Q : Nat) (g : Words) (n P : Nat) :
    applyPoly (polyMul Q n P) g = sumStates P.testBit (applyPoly Q g) n := by
  induction n generalizing P with
  | zero => exact applyPoly_zero g
  | succ n ih =>
    have hbit : P % 2 = (P.testBit 0).toNat := by rw [Nat.toNat_testBit, pow_zero, Nat.div_one]
    rw [polyMul, applyPoly_xor, applyPoly_timesX, ih, hbit, applyPoly_toNat_mul, sumStates_succ_low]
    simp only [Nat.testBit_succ]

theorem applyPoly_polySquare {P k : Nat} (h : ∀ g, applyPoly P g = wordsAfter k g) (g : Words) :
    applyPoly (polySquare P) g = wordsAfter (2 * k) g := by
  rw [polySquare, applyPoly_polyMul, two_mul, wordsAfter_add, ← h, ← h]
  rfl

theorem applyPoly_iterate_polySquare {P k : Nat} (h : ∀ g, applyPoly P g = wordsAfter k g) (m : Nat) (g : Words) :
    applyPoly (polySquare^[m] P) g = wordsAfter (2 ^ m * k) g := by
  induction m generalizing g with
  | zero => simpa using h g
  | succ m ih =>
    rw [Function.iterate_succ_apply', applyPoly_polySquare ih, ← mul_assoc, pow_succ']

/-- The polynomial x. -/
theorem applyPoly_two (g : Words) : applyPoly 2 g = wordsAfter 1 g := by
  rw [show 2 = timesX 1 by decide, applyPoly_timesX, applyPoly_one]
  rfl

/-- JUMP_POLY as a number. -/
def jumpNat : Nat := 0x39ABDC4529B1661CA9582618E03FC9AAD5A61266F0C9392C180EC6D33CFD0ABA

/-- LONG_JUMP_POLY as a number. -/
def longJumpNat : Nat := 0x39109BB02ACBE63577710069854EE241C5004E441C522FB376E15D3EFEFDCBBF

theorem jumpNat_eq : polySquare^[128] 2 = jumpNat := by decide +kernel

theorem longJumpNat_eq : polySquare^[64] jumpNat = longJumpNat := by decide +kernel

theorem applyPoly_jumpNat (g : Words) : applyPoly jumpNat g = wordsAfter (2 ^ 128) g := by
  rw [← jumpNat_eq, applyPoly_iterate_polySquare applyPoly_two, mul_one]

theorem applyPoly_longJumpNat (g : Words) : applyPoly longJumpNat g = wordsAfter (2 ^ 192) g := by
  rw [← longJumpNat_eq, applyPoly_iterate_polySquare applyPoly_jumpNat, ← pow_add]

theorem jumpWith_eq_applyPoly {j : Words} {P : Nat} (h : ∀ k < 256, jumpBit j k = P.testBit k) (g : Words) :
    jumpWith j g = applyPoly P g := by
  rw [jumpWith_eq_sumStates, sumStates_congr g h, applyPoly]

theorem jumpWith_jumpPoly (g : Words) : jumpWith jumpPoly g = wordsAfter (2 ^ 128) g :=
  (jumpWith_eq_applyPoly (by decide +kernel) g).trans (applyPoly_jumpNat g)

theorem jumpWith_longJumpPoly (g : Words) : jumpWith longJumpPoly g = wordsAfter (2 ^ 192) g :=
  (jumpWith_eq_applyPoly (by decide +kernel) g).trans (applyPoly_longJumpNat g)

end Sys2Proof.Machine

/-! # A seeded context is never all zero (spec/10_state.md R23) -/

namespace Sys2Proof.Machine

/-! ### The seed mixer is one-to-one (spec/40_seeding.md R101, R105) -/

theorem eq_zero_of_eq_ushiftRight {d : Word} {k : Nat} (hk : 0 < k) (h : d = d >>> k) : d = 0#64 := by
  have hdiv : d.toNat = d.toNat / 2 ^ k := by
    conv_lhs => rw [h, BitVec.toNat_ushiftRight, Nat.shiftRight_eq_div_pow]
  by_contra hne
  have hpos : 0 < d.toNat := Nat.pos_of_ne_zero fun h0 => hne (BitVec.eq_of_toNat_eq h0)
  have := Nat.div_lt_self hpos (Nat.one_lt_two_pow hk.ne')
  omega

theorem xorShift_injective {k : Nat} (hk : 0 < k) : Function.Injective (xorShift · k) := by
  intro a b h
  have hd : a ^^^ b = (a ^^^ b) >>> k := by
    have hxor : (a ^^^ a >>> k) ^^^ (b ^^^ b >>> k) = 0#64 := BitVec.xor_eq_zero_iff.2 h
    rw [xor_xor_xor_comm, ← BitVec.ushiftRight_xor_distrib] at hxor
    exact BitVec.xor_eq_zero_iff.1 hxor
  exact BitVec.xor_eq_zero_iff.1 (eq_zero_of_eq_ushiftRight hk hd)

/-- Multiplication by a word with an inverse modulo 2^64. -/
theorem mul_injective_of_mul_eq_one {m n : Word} (h : m * n = 1#64) : Function.Injective (· * m) := by
  intro a b hab
  have := congrArg (· * n) hab
  simpa [BitVec.mul_assoc, h] using this

theorem mul1_mul_inverse : mul1 * 0x96DE1B173F119089#64 = 1#64 := by decide

theorem mul2_mul_inverse : mul2 * 0x319642B2D24D8EC3#64 = 1#64 := by decide

theorem mix_injective : Function.Injective mix :=
  (xorShift_injective (k := 31) (by decide)).comp <| (mul_injective_of_mul_eq_one mul2_mul_inverse).comp <|
    (xorShift_injective (k := 27) (by decide)).comp <| (mul_injective_of_mul_eq_one mul1_mul_inverse).comp <|
    xorShift_injective (k := 30) (by decide)

/-- Two values of the mixer's stream differ, so they are not both zero (R105). -/
theorem expand_ne_zero (seed : Word) : expand seed ≠ Words.zero := by
  intro h
  have h0 : mix (seed + gamma) = 0#64 := congrArg Words.s0 h
  have h1 : mix (seed + gamma + gamma) = 0#64 := congrArg Words.s1 h
  have hg : seed + gamma + gamma = seed + gamma := mix_injective (h1.trans h0.symm)
  have hzero : gamma = 0#64 := by simpa using hg
  exact absurd hzero (by decide)

theorem bytesSeed_ne_zero (a : Args) : bytesSeed a ≠ Words.zero := by
  unfold bytesSeed
  split
  · exact expand_ne_zero _
  · rename_i hne
    intro h
    simp only [Words.zero, Words.mk.injEq] at h
    exact hne h

/-! ### What a completion writes -/

theorem lemireLoop_words {range t : Word} {fuel : Nat} {x : Word} {g : Words} {d : Nat} {r : Word × Words × Nat}
    (h : lemireLoop draw range t fuel x g d = some r) : ∃ k, r.2.1 = wordsAfter k g := by
  induction fuel generalizing x g d with
  | zero => cases h
  | succ fuel ih =>
    unfold lemireLoop at h
    split at h
    · obtain ⟨k, hk⟩ := ih h
      exact ⟨k + 1, hk⟩
    · cases h
      exact ⟨0, rfl⟩

theorem lemire_words {fuel : Nat} {range : Word} {g : Words} {r : Word × Words × Nat}
    (h : lemire draw fuel range g = some r) : ∃ k, r.2.1 = wordsAfter k g := by
  simp only [lemire] at h
  split at h
  · obtain ⟨k, hk⟩ := lemireLoop_words h
    exact ⟨k + 1, hk⟩
  · cases h
    exact ⟨1, rfl⟩

theorem fillLoop_words (len n k : Nat) (g : Words) (m : Memory) : (fillLoop len n k g m).1 = wordsAfter n g := by
  induction n generalizing k g m with
  | zero => rfl
  | succ n ih => exact ih _ _ _

/-- Context `c` of `t` holds the state of context `src` of `s` after some draws, and no other context has changed. -/
def Advances (src c : Nat) (s t : State) : Prop :=
  ∃ k seeded, t.contexts = s.contexts.set c ⟨wordsAfter k (s.words src), seeded⟩

theorem completeDraw_advances (c : Nat) (f : Word → Word) (s : State) : Advances c c s (completeDraw c f s) :=
  ⟨1, _, rfl⟩

theorem completeRandWide_advances (c : Nat) (s : State) : Advances c c s (completeRandWide c s) := ⟨2, _, rfl⟩

theorem completeJumpWith_advances {j : Words} {k : Nat} (hj : ∀ g, jumpWith j g = wordsAfter k g) (c : Nat) (s : State) :
    Advances c c s (completeJumpWith j c s) := by
  refine ⟨k, s.seeded c, ?_⟩
  rw [← hj]
  rfl

theorem completeRange_advances {ty : IntTy} {c : Nat} {lx ux : Bool} {a : Args} {s t : State}
    (h : completeRange ty c lx ux a s = some t) : Advances c c s t := by
  unfold completeRange at h
  split at h
  · cases h
  · split at h
    · cases h
      exact completeDraw_advances c _ s
    · split at h
      · cases h
      · rename_i hlemire
        obtain ⟨k, hk⟩ := lemire_words hlemire
        cases h
        exact ⟨k, s.seeded c, by rw [← hk]; rfl⟩

theorem completeFill_advances {c : Nat} {a : Args} {s t : State} (h : completeFill c a s = some t) : Advances c c s t := by
  cases h
  exact ⟨fillDraws a.a0.toNat, s.seeded c, by rw [← fillLoop_words]; rfl⟩

/-- Every command that reads a context leaves a state of that context's stream in the context it writes. -/
theorem completionOf_advances {i : Instr} {a : Args} {s t : State} (h : completionOf i a s = some t)
    (hi : readsContext i = true) : Advances i.ctx (target i) s t := by
  cases i
  case seedU64 | seedBytes | seedEnt => cases hi
  case clone => cases h; exact ⟨0, true, rfl⟩
  case jump c => cases h; exact completeJumpWith_advances jumpWith_jumpPoly c s
  case ljump c => cases h; exact completeJumpWith_advances jumpWith_longJumpPoly c s
  case randU128 c | randI128 c => cases h; exact completeRandWide_advances c s
  case rangeU8 | rangeU16 | rangeU32 | rangeU64 | rangeI8 | rangeI16 | rangeI32 | rangeI64 => exact completeRange_advances h
  case fill => exact completeFill_advances h
  all_goals cases h; exact completeDraw_advances _ _ s

/-- Every other command leaves a seed that is not all zero. -/
theorem completionOf_seeds {i : Instr} {a : Args} {s t : State} (h : completionOf i a s = some t)
    (hi : readsContext i = false) : ∃ w, w ≠ Words.zero ∧ t.contexts = s.contexts.set (target i) ⟨w, true⟩ := by
  cases i
  case seedU64 => cases h; exact ⟨_, expand_ne_zero _, rfl⟩
  case seedBytes => cases h; exact ⟨_, bytesSeed_ne_zero a, rfl⟩
  case seedEnt =>
    simp only [completionOf, completeSeedEnt] at h
    split at h
    · cases h
    · cases h; exact ⟨_, expand_ne_zero _, rfl⟩
  all_goals cases hi

/-! ### The invariant -/

theorem words_ne_zero_of_seeded {s : State} (hs : s.SeededNonZero) {c : Nat} (hc : s.seeded c = true) :
    s.words c ≠ Words.zero := by
  refine hs (s.ctx c) ?_ hc
  by_cases hlt : c < s.contexts.length
  · rw [State.ctx, List.getD_eq_getElem _ _ hlt]
    exact List.getElem_mem hlt
  · rw [State.seeded, State.ctx, List.getD_eq_default _ _ (by omega)] at hc
    cases hc

theorem seededNonZero_set {s t : State} {c : Nat} {w : Words} {b : Bool} (hs : s.SeededNonZero) (hw : w ≠ Words.zero)
    (ht : t.contexts = s.contexts.set c ⟨w, b⟩) : t.SeededNonZero := by
  intro g hg
  rcases List.mem_or_eq_of_mem_set (ht ▸ hg) with hg | rfl
  · exact hs g hg
  · exact fun _ => hw

theorem issue_seededNonZero {s : State} (cmd : Option Instr) (hs : s.SeededNonZero) : (issue cmd s).SeededNonZero := by
  intro g hg
  exact hs g (issue_contexts cmd s ▸ hg)

theorem completionTurn_seededNonZero {s : State} (hinv : s.Inv) (hs : s.SeededNonZero) :
    (completionTurn s).SeededNonZero := by
  rcases completionTurn_cases s with he | ⟨l, t, hl, ht, he⟩ <;> rw [he]
  · exact hs
  · obtain ⟨-, hseeded, -⟩ := hinv.latchChecked l hl
    cases hr : readsContext l.cmd with
    | true =>
      obtain ⟨k, b, hk⟩ := completionOf_advances ht hr
      exact seededNonZero_set hs (wordsAfter_ne_zero k (words_ne_zero_of_seeded hs (hseeded hr))) hk
    | false =>
      obtain ⟨w, hw, hset⟩ := completionOf_seeds ht hr
      exact seededNonZero_set hs hw hset

/-- Settles O57: seeds are not all zero, and the update, any number of times, takes no state to zero; JUMP and LJUMP are such
numbers of updates. -/
theorem seededContextsStayNonZero : Obligations.SeededContextsStayNonZero := by
  intro s t hinv hs h
  refine (step_keeps (P := fun s => s.Inv ∧ s.SeededNonZero) ?_ ?_ ?_ ?_ ⟨hinv, hs⟩ h).2
  · exact fun _ a e es r n ⟨hinv, hs⟩ => ⟨inv_ports hinv a e es r n, hs⟩
  · exact fun s ⟨hinv, _⟩ => ⟨resetBlock_inv hinv.paramsLegal, resetBlock_seededNonZero s⟩
  · exact fun cmd _ ⟨hinv, hs⟩ => ⟨issue_inv cmd hinv, issue_seededNonZero cmd hs⟩
  · exact fun _ ⟨hinv, hs⟩ => ⟨completionTurn_inv hinv, completionTurn_seededNonZero hinv hs⟩

end Sys2Proof.Machine

/-! # The words of unseeded contexts are never observable (spec/10_state.md R21) -/

namespace Sys2Proof.Machine

/-- The state `s` with other contexts. -/
def State.withContexts (s : State) (cs : List GenCtx) : State := { s with contexts := cs }

/-- The state `t` with the contexts `cs`, but its own context `c`. -/
def State.over (t : State) (cs : List GenCtx) (c : Nat) : State := t.withContexts (cs.set c (t.ctx c))

@[simp] theorem withContexts_contexts (s : State) (cs : List GenCtx) : (s.withContexts cs).contexts = cs := rfl

@[simp] theorem withContexts_cfg (s : State) (cs : List GenCtx) : (s.withContexts cs).cfg = s.cfg := rfl

@[simp] theorem withContexts_fault (s : State) (cs : List GenCtx) : (s.withContexts cs).fault = s.fault := rfl

theorem sameButUnseeded_refl (s : State) : SameButUnseeded s s := ⟨rfl, rfl, fun _ => ⟨rfl, fun _ => rfl⟩⟩

theorem SameButUnseeded.exists_contexts {s s' : State} (h : SameButUnseeded s s') : ∃ cs, s' = s.withContexts cs :=
  ⟨s'.contexts, h.1⟩

/-- What has the contexts of `s` may exchange them for `cs` where `s` may. -/
theorem SameButUnseeded.transfer {s t : State} {cs : List GenCtx} (h : SameButUnseeded s (s.withContexts cs))
    (ht : t.contexts = s.contexts) : SameButUnseeded t (t.withContexts cs) := by
  obtain ⟨-, hlen, hctx⟩ := h
  refine ⟨rfl, ht ▸ hlen, fun c => ?_⟩
  have hc : t.ctx c = s.ctx c := by rw [State.ctx, ht, State.ctx]
  rw [State.seeded, State.words, hc]
  exact hctx c

theorem completeSeed_withContexts {s : State} {c : Nat} (cs : List GenCtx) (hc : c < s.contexts.length) (w : Words) :
    completeSeed c w (s.withContexts cs) = (completeSeed c w s).over cs c := by
  rw [State.over, show (completeSeed c w s).ctx c = ⟨w, true⟩ from seedWith_ctx_same s w hc]
  rfl

theorem completeSeedEnt_withContexts {s : State} {c : Nat} (cs : List GenCtx) (hc : c < s.contexts.length) (a : Args) :
    completeSeedEnt c a (s.withContexts cs) = (completeSeedEnt c a s).map (·.over cs c) := by
  unfold completeSeedEnt
  rw [show (s.withContexts cs).entropy = s.entropy from rfl]
  split
  · rfl
  · rename_i v rest _
    exact congrArg some (completeSeed_withContexts (s := { s with entropy := rest }) cs hc (expand v))

/-! ### Reads and issue steps -/

section
variable {s : State} {cs : List GenCtx} (h : SameButUnseeded s (s.withContexts cs))
include h

theorem seeded_withContexts (c : Nat) : (s.withContexts cs).seeded c = s.seeded c := (h.2.2 c).1.symm

theorem words_withContexts {c : Nat} (hc : s.seeded c = true) : (s.withContexts cs).words c = s.words c :=
  ((h.2.2 c).2 hc).symm

theorem statusWord_withContexts : statusWord (s.withContexts cs) = statusWord s := by
  have hseeded : seededNat cs = seededNat s.contexts := by
    refine Nat.eq_of_testBit_eq fun c => ?_
    rw [testBit_seededNat, testBit_seededNat]
    exact seeded_withContexts h c
  unfold statusWord
  rw [withContexts_contexts, hseeded]
  rfl

theorem memRead_withContexts (off n : Nat) : memRead off n (s.withContexts cs) = (memRead off n s).withContexts cs := by
  have hreg : registerRead off (s.withContexts cs) = registerRead off s := by
    unfold registerRead
    rw [statusWord_withContexts h]
    rfl
  unfold memRead
  rw [hreg, withContexts_cfg]
  split_ifs <;> rfl

theorem issueFault_withContexts (cmd : Option Instr) : issueFault cmd (s.withContexts cs) = issueFault cmd s := by
  unfold issueFault checkFault
  simp only [seeded_withContexts h]
  rfl

theorem issue_withContexts (cmd : Option Instr) : issue cmd (s.withContexts cs) = (issue cmd s).withContexts cs := by
  unfold issue
  rw [issueFault_withContexts h, withContexts_fault]
  split
  · rfl
  · split <;> rfl

theorem accepts_withContexts (i : Instr) : accepts i (s.withContexts cs) = accepts i s := by
  rw [accepts, issueFault_withContexts h]
  rfl

theorem issue_same (cmd : Option Instr) : SameButUnseeded (issue cmd s) (issue cmd (s.withContexts cs)) := by
  rw [issue_withContexts h]
  exact h.transfer (issue_contexts cmd s)

/-! ### Completion steps -/

/-- Exchanging contexts before or after context `c` gets new words is the same. -/
theorem finish_setWords_withContexts {c : Nat} (hc : c < s.contexts.length) (w : Words) (r0 r1 : Word) (d : Nat) :
    finish r0 r1 d ((s.withContexts cs).setWords c w) = (finish r0 r1 d (s.setWords c w)).over cs c := by
  have hctx : (finish r0 r1 d (s.setWords c w)).ctx c = ⟨w, (s.withContexts cs).seeded c⟩ :=
    (setWords_ctx_same s w hc).trans (by rw [seeded_withContexts h])
  rw [State.over, hctx]
  rfl

theorem completeDraw_withContexts {c : Nat} (hc : c < s.contexts.length) (hseeded : s.seeded c = true) (f : Word → Word) :
    completeDraw c f (s.withContexts cs) = (completeDraw c f s).over cs c := by
  rw [completeDraw, words_withContexts h hseeded, finish_setWords_withContexts h hc]
  rfl

theorem completeJumpWith_withContexts {c : Nat} (hc : c < s.contexts.length) (hseeded : s.seeded c = true) (j : Words) :
    completeJumpWith j c (s.withContexts cs) = (completeJumpWith j c s).over cs c := by
  rw [completeJumpWith, words_withContexts h hseeded, finish_setWords_withContexts h hc]
  rfl

theorem completeRandWide_withContexts {c : Nat} (hc : c < s.contexts.length) (hseeded : s.seeded c = true) :
    completeRandWide c (s.withContexts cs) = (completeRandWide c s).over cs c := by
  simp only [completeRandWide, words_withContexts h hseeded, finish_setWords_withContexts h hc]

theorem completeRange_withContexts {c : Nat} (hc : c < s.contexts.length) (hseeded : s.seeded c = true) (ty : IntTy)
    (lx ux : Bool) (a : Args) :
    completeRange ty c lx ux a (s.withContexts cs) = (completeRange ty c lx ux a s).map (·.over cs c) := by
  unfold completeRange
  rw [words_withContexts h hseeded, completeDraw_withContexts h hc hseeded]
  split
  · rfl
  · split
    · rfl
    · split
      · rfl
      · rw [finish_setWords_withContexts h hc]
        rfl

theorem completeFill_withContexts {c : Nat} (hc : c < s.contexts.length) (hseeded : s.seeded c = true) (a : Args) :
    completeFill c a (s.withContexts cs) = (completeFill c a s).map (·.over cs c) := by
  unfold completeFill
  rw [words_withContexts h hseeded]
  let r := fillLoop a.a0.toNat (fillDraws a.a0.toNat) 0 (s.words c) s.outbuf
  exact congrArg some
    (finish_setWords_withContexts (s := { s with outbuf := r.2 }) (h.transfer rfl) hc r.1 0#64 0#64 (fillDraws a.a0.toNat))

/-- A completion step reads the words of no unseeded context. -/
theorem completionOf_withContexts {i : Instr} (hc : i.ctx < s.contexts.length) (ht : target i < s.contexts.length)
    (hseeded : readsContext i = true → s.seeded i.ctx = true) (a : Args) :
    completionOf i a (s.withContexts cs) = (completionOf i a s).map (·.over cs (target i)) := by
  cases i
  case seedU64 => exact congrArg some (completeSeed_withContexts cs hc _)
  case seedBytes => exact congrArg some (completeSeed_withContexts cs hc _)
  case seedEnt => exact completeSeedEnt_withContexts cs hc a
  case clone c d =>
    have hwords : (s.withContexts cs).words c = s.words c := words_withContexts h (hseeded rfl)
    rw [completionOf, completeClone, hwords]
    exact congrArg some (completeSeed_withContexts cs ht _)
  case jump => exact congrArg some (completeJumpWith_withContexts h hc (hseeded rfl) _)
  case ljump => exact congrArg some (completeJumpWith_withContexts h hc (hseeded rfl) _)
  case randU128 | randI128 => exact congrArg some (completeRandWide_withContexts h hc (hseeded rfl))
  case rangeU8 | rangeU16 | rangeU32 | rangeU64 | rangeI8 | rangeI16 | rangeI32 | rangeI64 =>
    exact completeRange_withContexts h hc (hseeded rfl) _ _ _ a
  case fill => exact completeFill_withContexts h hc (hseeded rfl) a
  all_goals exact congrArg some (completeDraw_withContexts h hc (hseeded rfl) _)

/-- Where only context `c` has changed, the exchange of the others still differs in unseeded words only. -/
theorem over_same {t : State} {c : Nat} {g : GenCtx} (hc : c < s.contexts.length) (ht : t.contexts = s.contexts.set c g) :
    SameButUnseeded t (t.over cs c) := by
  obtain ⟨-, hlen, hctx⟩ := h
  have hg : t.ctx c = g := by rw [State.ctx, ht, getD_set, if_pos ⟨rfl, hc⟩]
  refine ⟨rfl, ?_, fun e => ?_⟩
  · rw [ht, List.length_set, hlen]
    exact (List.length_set ..).symm
  · have ht' : t.ctx e = if e = c ∧ c < s.contexts.length then g else s.ctx e := by rw [State.ctx, ht, getD_set]; rfl
    have ho' : (t.over cs c).ctx e = if e = c ∧ c < cs.length then g else (s.withContexts cs).ctx e := by
      rw [← hg]
      exact getD_set cs c e (t.ctx c)
    rw [show s.contexts.length = cs.length from hlen] at ht'
    rw [State.seeded, State.words, State.seeded, State.words, ht', ho']
    split
    · exact ⟨rfl, fun _ => rfl⟩
    · exact hctx e

end

theorem ctx_lt_of_checked {s : State} (hs : s.Inv) {i : Instr} (hi : badContext s.cfg i = false) :
    i.ctx < s.contexts.length ∧ target i < s.contexts.length := by
  obtain ⟨hctx, hdst⟩ := Bool.or_eq_false_iff.1 hi
  have hlt : i.ctx < s.contexts.length := by
    have := of_decide_eq_false hctx
    rw [hs.contextCount]
    omega
  refine ⟨hlt, ?_⟩
  unfold target
  cases hd : i.dst? with
  | none => exact hlt
  | some d =>
    rw [hd] at hdst
    have := of_decide_eq_false hdst
    rw [hs.contextCount]
    exact Nat.lt_of_not_le this

theorem completionTurn_same {s s' : State} (hs : s.Inv) (h : SameButUnseeded s s') :
    SameButUnseeded (completionTurn s) (completionTurn s') := by
  obtain ⟨cs, rfl⟩ := h.exists_contexts
  cases hl : s.latch with
  | none =>
    rw [completionTurn_idle hl, completionTurn_idle (s := s.withContexts cs) hl]
    exact h
  | some l =>
    obtain ⟨hbad, hseeded, -⟩ := hs.latchChecked l hl
    obtain ⟨hctx, htarget⟩ := ctx_lt_of_checked hs hbad
    rw [completionTurn_inFlight hl, completionTurn_inFlight (s := s.withContexts cs) hl,
      completionOf_withContexts h hctx htarget hseeded]
    cases hc : completionOf l.cmd l.args s with
    | none => exact h
    | some t =>
      obtain ⟨g, r0, r1, d, m, e, rfl, -, -, -⟩ := (completionOf_completes hc).shape
      exact over_same h htarget rfl

theorem runCommand_same {s s' : State} (i : Instr) (hs : s.Inv) (h : SameButUnseeded s s') :
    SameButUnseeded (runCommand i (completionOf i) s) (runCommand i (completionOf i) s') := by
  obtain ⟨cs, rfl⟩ := h.exists_contexts
  have hissue := issue_same h (some i)
  have hacc' := accepts_withContexts h i
  cases hacc : accepts i s with
  | false =>
    rw [runCommand_rejected _ hacc, runCommand_rejected _ (hacc'.trans hacc)]
    exact hissue
  | true =>
    rw [runCommand_accepted _ hacc, runCommand_accepted _ (hacc'.trans hacc), ← completionTurn_accept,
      ← completionTurn_accept, ← issue_of_accepts hacc, ← issue_of_accepts (hacc'.trans hacc)]
    exact completionTurn_same (issue_inv _ hs) hissue

/-! ### Moves -/

theorem respond_same {s s' : State} (r : Response) (h : SameButUnseeded s s') :
    SameButUnseeded (respond r s) (respond r s') := by
  obtain ⟨cs, rfl⟩ := h.exists_contexts
  exact h.transfer rfl

theorem memRead_same {s s' : State} (off n : Nat) (h : SameButUnseeded s s') :
    SameButUnseeded (memRead off n s) (memRead off n s') := by
  obtain ⟨cs, rfl⟩ := h.exists_contexts
  rw [memRead_withContexts h]
  exact h.transfer (memRead_contexts off n s)

theorem writeEffect_same {s s' : State} (off : Nat) (v : Word) (h : SameButUnseeded s s') :
    SameButUnseeded (writeEffect off v s) (writeEffect off v s') := by
  obtain ⟨cs, rfl⟩ := h.exists_contexts
  unfold writeEffect
  split_ifs
  · exact sameButUnseeded_refl _
  · exact h
  · exact issue_same h _
  · exact h.transfer rfl
  · exact h

theorem memWrite_same {s s' : State} (off n : Nat) (v : Word) (h : SameButUnseeded s s') :
    SameButUnseeded (memWrite off n v s) (memWrite off n v s') := by
  unfold memWrite
  split
  · exact respond_same _ h
  · exact respond_same _ (writeEffect_same off v h)

theorem move_same {e : Event} {s s' t : State} (hs : s.Inv) (h : SameButUnseeded s s') (hm : move e s = .next t) :
    ∃ t', move e s' = .next t' ∧ SameButUnseeded t t' := by
  have hcfg : s'.cfg = s.cfg := by rw [h.1]
  cases e with
  | read addr n =>
    simp only [move, busRead, hcfg] at hm ⊢
    split at hm
    · cases hm
    · cases hm
      exact ⟨_, rfl, memRead_same _ n h⟩
  | write addr n v =>
    simp only [move, busWrite, hcfg] at hm ⊢
    split at hm
    · cases hm
    · cases hm
      exact ⟨_, rfl, memWrite_same _ n v h⟩
  | command w =>
    cases hd : decode w with
    | ok i =>
      rw [move, commandWord_ok _ hd, exec_eq] at hm
      cases hm
      exact ⟨_, by rw [move, commandWord_ok _ hd, exec_eq], runCommand_same i hs h⟩
    | error r =>
      rw [move, commandWord_error _ hd] at hm
      cases hm
      obtain ⟨cs, rfl⟩ := h.exists_contexts
      exact ⟨_, by rw [move, commandWord_error _ hd], issue_same h none⟩
  | complete => cases hm; exact ⟨_, rfl, completionTurn_same hs h⟩
  | entropy v =>
    cases hm
    obtain ⟨cs, rfl⟩ := h.exists_contexts
    exact ⟨_, rfl, h.transfer rfl⟩
  | hardReset =>
    cases hm
    obtain ⟨cs, rfl⟩ := h.exists_contexts
    exact ⟨_, rfl, sameButUnseeded_refl _⟩

/-- Settles O60: a command reads only the words of seeded contexts, since a command in flight passed its checks, and no other
move reads any. -/
theorem unseededWordsAreUnobservable : Obligations.UnseededWordsAreUnobservable := by
  intro s s' t hs h hstep
  obtain ⟨cs, rfl⟩ := h.exists_contexts
  cases ha : s.agenda with
  | nil =>
    rw [step_nil ha] at hstep
    cases hstep
    exact ⟨_, step_nil (s := s.withContexts cs) ha, completionTurn_same hs h⟩
  | cons e rest =>
    rw [step_cons ha] at hstep
    rw [step_cons (s := s.withContexts cs) ha]
    exact move_same (s := { s with agenda := rest }) (inv_ports hs s.args s.entropy rest s.response s.freeCount)
      (h.transfer (t := { s with agenda := rest }) rfl) hstep

end Sys2Proof.Machine

/-! # The register window (spec/20_memory.md R53 to R59, R66) -/

namespace Sys2Proof.Machine

/-! ### Which accesses are admitted (R53, R54) -/

theorem admitted_iff (off n : Nat) :
    admitted off n = true ↔ n ∈ [1, 2, 4, 8] ∧ off % n = 0 ∧ (off < 0x058 → n = 8) := by
  simp only [admitted, decide_eq_true_eq, List.mem_cons, List.not_mem_nil, or_false]

theorem not_admitted_iff (off n : Nat) :
    admitted off n = false ↔ n ∉ [1, 2, 4, 8] ∨ off % n ≠ 0 ∨ (off < 0x058 ∧ n ≠ 8) := by
  rw [← Bool.not_eq_true, admitted_iff]
  tauto

theorem admitted_register {off : Nat} (h : off % 8 = 0) : admitted off 8 = true :=
  (admitted_iff off 8).2 ⟨by decide, h, fun _ => rfl⟩

theorem admitted_above {off n : Nat} (hn : n ∈ [1, 2, 4, 8]) (hoff : off % n = 0) (h : 0x058 ≤ off) :
    admitted off n = true :=
  (admitted_iff off n).2 ⟨hn, hoff, fun hlt => absurd hlt (Nat.not_lt.2 h)⟩

/-- OUTBUF starts at a multiple of every access width, so alignment in OUTBUF is alignment in the window. -/
theorem admitted_outbuf {k n : Nat} (hn : n ∈ [1, 2, 4, 8]) (hk : k % n = 0) : admitted (0x800 + k) n = true := by
  have hbase : ∀ n ∈ [1, 2, 4, 8], 0x800 % n = 0 := by decide
  have hoff : (0x800 + k) % n = 0 := by rw [Nat.add_mod, hbase n hn, hk, Nat.zero_add, Nat.zero_mod]
  exact admitted_above hn hoff (by omega)

/-! ### What an access does, one lemma per kind of access -/

theorem memRead_busError {off n : Nat} (h : admitted off n = false) (s : State) :
    memRead off n s = respond .busError s := by
  simp [memRead, h]

theorem memRead_register {off n : Nat} (h : admitted off n = true) (hoff : off < 0x058) (s : State) :
    memRead off n s = respond (.data (registerRead off s)) s := by
  simp [memRead, h, hoff]

theorem memRead_outbuf {k n : Nat} (h : admitted (0x800 + k) n = true) {s : State} (hk : k < s.cfg.outbufBytes) :
    memRead (0x800 + k) n s = { respond (.data (outbufRead s k n)) s with freeCount := s.freeCount + n } := by
  simp [memRead, h, hk, show ¬ 0x800 + k < 0x058 by omega]

theorem memRead_reserved {off n : Nat} (h : admitted off n = true) {s : State} (hreg : 0x058 ≤ off)
    (hout : off < 0x800 ∨ 0x800 + s.cfg.outbufBytes ≤ off) : memRead off n s = respond (.data 0#64) s := by
  simp [memRead, h, show ¬ off < 0x058 by omega, show ¬ (0x800 ≤ off ∧ off < 0x800 + s.cfg.outbufBytes) by omega]

/-- An admitted read returns data; of the rest of the state only the free-byte counter may move. -/
theorem memRead_admitted {off n : Nat} (h : admitted off n = true) (s : State) :
    ∃ d count, memRead off n s = { s with response := .data d, freeCount := count } := by
  by_cases hreg : off < 0x058
  · exact ⟨_, _, memRead_register h hreg s⟩
  · by_cases hout : off < 0x800 ∨ 0x800 + s.cfg.outbufBytes ≤ off
    · exact ⟨_, _, memRead_reserved h (Nat.not_lt.1 hreg) hout⟩
    · obtain ⟨k, rfl⟩ := Nat.exists_eq_add_of_le (show 0x800 ≤ off by omega)
      exact ⟨_, _, memRead_outbuf h (by omega)⟩

theorem memWrite_busError {off n : Nat} (h : admitted off n = false) (v : Word) (s : State) :
    memWrite off n v s = respond .busError s := by
  simp [memWrite, h]

theorem memWrite_admitted {off n : Nat} (h : admitted off n = true) (v : Word) (s : State) :
    memWrite off n v s = respond .ack (writeEffect off v s) := by
  simp [memWrite, h]

/-! ### What a write does at each offset (R59) -/

theorem writeEffect_ctrl (v : Word) (s : State) :
    writeEffect 0x008 v s = if v.getLsbD 0 then resetBlock s else s := rfl

theorem writeEffect_cmd (v : Word) (s : State) : writeEffect 0x018 v s = issueWord (v.extractLsb' 0 32) s := by
  rw [← BitVec.setWidth_eq_extractLsb' (by decide)]
  rfl

theorem writeEffect_arg {i : Nat} (hi : i < 4) (v : Word) (s : State) :
    writeEffect (0x020 + 8 * i) v s = { s with args := s.args.set i v } := by
  simp [writeEffect, show ¬ 0x020 + 8 * i = 0x008 by omega, show ¬ 0x020 + 8 * i = 0x018 by omega,
    show 0x020 + 8 * i < 0x040 by omega]

theorem writeEffect_ignored {off : Nat} (hctrl : off ≠ 0x008) (hcmd : off ≠ 0x018) (harg : off < 0x020 ∨ 0x040 ≤ off)
    (v : Word) (s : State) : writeEffect off v s = s := by
  simp [writeEffect, hctrl, hcmd, show ¬ (0x020 ≤ off ∧ off < 0x040) by omega]

/-- The offsets from 0x020 up to 0x040 that an access of 8 bytes may have are those of the four ARG registers. -/
theorem writeEffect_other {off n : Nat} (h : admitted off n = true)
    (hoff : off ∉ [0x008, 0x018, 0x020, 0x028, 0x030, 0x038]) (v : Word) (s : State) : writeEffect off v s = s := by
  obtain ⟨-, halign, hwidth⟩ := (admitted_iff off n).1 h
  simp only [List.mem_cons, List.not_mem_nil, or_false, not_or] at hoff
  obtain ⟨hctrl, hcmd, h0, h1, h2, h3⟩ := hoff
  refine writeEffect_ignored hctrl hcmd ?_ v s
  by_contra hin
  obtain rfl := hwidth (by omega)
  omega

/-- Settles O16: the accesses with a bus error are exactly those that are not admitted. -/
theorem busErrorsChangeNothing : Obligations.BusErrorsChangeNothing := by
  refine fun off n v s => ⟨fun hbad => ?_, fun hn halign hwidth => ?_⟩
  · have h := (not_admitted_iff off n).2 hbad
    exact ⟨memRead_busError h s, memWrite_busError h v s⟩
  · have h := (admitted_iff off n).2 ⟨hn, halign, hwidth⟩
    obtain ⟨d, count, hread⟩ := memRead_admitted h s
    exact ⟨⟨d, by rw [hread]⟩, by rw [memWrite_admitted h, respond_response]⟩

/-- Settles O17: each clause is one kind of admitted access. -/
theorem hostAccessEffects : Obligations.HostAccessEffects := by
  intro off n v s hn halign hwidth
  have h := (admitted_iff off n).2 ⟨hn, halign, hwidth⟩
  rw [memWrite_admitted h]
  refine ⟨?_, ?_, ?_, ?_, fun hoff => ?_⟩
  · obtain ⟨d, count, hread⟩ := memRead_admitted h s
    rw [hread]
  · rintro rfl
    rw [writeEffect_cmd]
    rfl
  · rintro rfl
    rw [writeEffect_ctrl]
    rfl
  · rintro i hi rfl
    rw [writeEffect_arg hi]
    rfl
  · rw [writeEffect_other h hoff]
    rfl

/-! ### Register reads (R51) -/

theorem memRead_register_response {off : Nat} (hoff : off < 0x058) (halign : off % 8 = 0) (s : State) :
    (memRead off 8 s).response = .data (registerRead off s) := by
  rw [memRead_register (admitted_register halign) hoff, respond_response]

/-- Settles O18: the register at each offset, and 0 outside the registers and OUTBUF. -/
theorem registerReadValues : Obligations.RegisterReadValues := by
  intro s
  have hregister (off : Nat) (hoff : off < 0x058 ∧ off % 8 = 0) :
      (memRead off 8 s).response = .data (registerRead off s) := memRead_register_response hoff.1 hoff.2 s
  refine ⟨hregister 0x000 (by decide), hregister 0x008 (by decide), hregister 0x010 (by decide),
    hregister 0x018 (by decide), hregister 0x020 (by decide), hregister 0x028 (by decide), hregister 0x030 (by decide),
    hregister 0x038 (by decide), hregister 0x040 (by decide), hregister 0x048 (by decide), hregister 0x050 (by decide),
    fun off n hn halign hreg hout => ?_⟩
  rw [memRead_reserved (admitted_above hn halign hreg) hreg hout, respond_response]

/-! ### Little-endian words (R55, R57) -/

theorem getLsbD_littleEndian (bs : List Byte) {i : Nat} (hi : i < 64) :
    (littleEndian bs).getLsbD i = (bs.getD (i / 8) 0#8).getLsbD (i % 8) := by
  induction bs generalizing i with
  | nil => simp [littleEndian]
  | cons b rest ih =>
    rw [littleEndian, BitVec.getLsbD_or, BitVec.getLsbD_setWidth, BitVec.getLsbD_shiftLeft]
    by_cases h8 : i < 8
    · simp [hi, h8, Nat.div_eq_of_lt h8, Nat.mod_eq_of_lt h8]
    · obtain ⟨j, rfl⟩ := Nat.exists_eq_add_of_le (Nat.not_lt.1 h8)
      simp [hi, ih (show j < 64 by omega), show (8 + j) / 8 = j / 8 + 1 by omega]

theorem extractLsb'_littleEndian (bs : List Byte) {j : Nat} (hj : j < 8) :
    (littleEndian bs).extractLsb' (8 * j) 8 = bs.getD j 0#8 := by
  refine BitVec.eq_of_getLsbD_eq fun i hi => ?_
  rw [BitVec.getLsbD_extractLsb', getLsbD_littleEndian bs (by omega), show (8 * j + i) / 8 = j by omega,
    show (8 * j + i) % 8 = i by omega, decide_eq_true hi, Bool.true_and]

theorem littleEndian_lt (bs : List Byte) : (littleEndian bs).toNat < 2 ^ (8 * bs.length) := by
  refine Nat.lt_pow_two_of_testBit _ fun i hi => ?_
  rw [BitVec.testBit_toNat]
  by_cases h64 : i < 64
  · rw [getLsbD_littleEndian bs h64, List.getD_eq_default _ _ (by omega), BitVec.getLsbD_zero]
  · exact BitVec.getLsbD_of_ge _ _ (by omega)

/-- The bytes of a word from byte `j` on, read little-endian, are its bits from 8j on. -/
theorem littleEndian_map_byteOf (x : Word) (j n : Nat) :
    littleEndian ((List.range n).map fun i => byteOf x (j + i)) = (x.extractLsb' (8 * j) (8 * n)).setWidth 64 := by
  refine BitVec.eq_of_getLsbD_eq fun i hi => ?_
  rw [getLsbD_littleEndian _ hi, BitVec.getLsbD_setWidth, BitVec.getLsbD_extractLsb', decide_eq_true hi, Bool.true_and]
  by_cases hn : i / 8 < n
  · rw [decide_eq_true (show i < 8 * n by omega), Bool.true_and]
    simp [List.getD, hn, byteOf, Nat.mod_lt, show 8 * (j + i / 8) + i % 8 = 8 * j + i by omega]
  · rw [decide_eq_false (show ¬ i < 8 * n by omega), Bool.false_and, List.getD_eq_default _ _ (by simpa using hn),
      BitVec.getLsbD_zero]

/-! ### OUTBUF reads (R55) -/

theorem outbufByte_of_read {s : State} {k : Nat} {b : Byte} (h : s.outbuf.read k = some b) (place : Nat) :
    outbufByte s k place = b := by
  rw [outbufByte, h, Option.getD_some]

theorem extractLsb'_outbufRead (s : State) (k : Nat) {j n : Nat} (hj : j < n) (hn : n ≤ 8) :
    (outbufRead s k n).extractLsb' (8 * j) 8 = outbufByte s (k + j) (s.freeCount + j) := by
  rw [outbufRead, extractLsb'_littleEndian _ (by omega)]
  simp [List.getD, hj]

theorem outbufRead_lt (s : State) (k n : Nat) : (outbufRead s k n).toNat < 2 ^ (8 * n) := by
  refine (littleEndian_lt _).trans_eq ?_
  rw [List.length_map, List.length_range]

theorem memRead_outbuf_response {k n : Nat} (hn : n ∈ [1, 2, 4, 8]) (halign : k % n = 0) {s : State}
    (hk : k < s.cfg.outbufBytes) : (memRead (0x800 + k) n s).response = .data (outbufRead s k n) := by
  rw [memRead_outbuf (admitted_outbuf hn halign) hk]
  rfl

theorem le_eight_of_width {n : Nat} (h : n ∈ [1, 2, 4, 8]) : n ≤ 8 :=
  (show ∀ n ∈ [1, 2, 4, 8], n ≤ 8 by decide) n h

/-- Settles O21: the value is `outbufRead`, whose bytes are those of OUTBUF. -/
theorem outbufReadsAreLittleEndian : Obligations.OutbufReadsAreLittleEndian := by
  refine fun s k n hn halign hk _ => ⟨outbufRead s k n, memRead_outbuf_response hn halign hk, outbufRead_lt s k n,
    fun j b hj hb => ?_⟩
  rw [extractLsb'_outbufRead s k hj (le_eight_of_width hn), outbufByte_of_read hb]

/-! ### OUTBUF after a FILL (R140, R66) -/

/-- A FILL's inner loop writes the bytes below `len` of its eight, and no other. -/
theorem read_fillChunk (len k : Nat) (x : Word) (m : Memory) (p : Nat) :
    (fillChunk len k x m).read p =
      if 8 * k ≤ p ∧ p < 8 * k + 8 ∧ p < len then some (byteOf x (p - 8 * k)) else m.read p := by
  unfold fillChunk
  suffices hfold : ∀ n, Memory.read ((List.range n).foldl
      (fun m j => if 8 * k + j < len then m.write (8 * k + j) (byteOf x j) else m) m) p =
        if 8 * k ≤ p ∧ p < 8 * k + n ∧ p < len then some (byteOf x (p - 8 * k)) else m.read p from hfold 8
  intro n
  induction n with
  | zero => exact (if_neg (by omega)).symm
  | succ n ih =>
    rw [List.range_succ, List.foldl_append, List.foldl_cons, List.foldl_nil]
    by_cases hlen : 8 * k + n < len
    · rw [if_pos hlen]
      by_cases hp : p = 8 * k + n
      · subst hp
        simp [hlen]
      · rw [Memory.read_write_other _ _ hp, ih]
        grind
    · rw [if_neg hlen, ih]
      grind

theorem read_fillChunk_inside {len k j : Nat} (x : Word) (m : Memory) (hj : j < 8) (hlen : 8 * k + j < len) :
    (fillChunk len k x m).read (8 * k + j) = some (byteOf x j) := by
  rw [read_fillChunk, if_pos ⟨by omega, by omega, hlen⟩, Nat.add_sub_cancel_left]

theorem read_fillChunk_before {k p : Nat} (len : Nat) (x : Word) (m : Memory) (hp : p < 8 * k) :
    (fillChunk len k x m).read p = m.read p := by
  rw [read_fillChunk, if_neg (by omega)]

theorem read_fillLoop_before {k p : Nat} (len n : Nat) (g : Words) (m : Memory) (hp : p < 8 * k) :
    (fillLoop len n k g m).2.read p = m.read p := by
  induction n generalizing k g m with
  | zero => rfl
  | succ n ih => exact (ih _ _ (by omega)).trans (read_fillChunk_before len _ m hp)

/-- Draw `i` of the loop gives the bytes from 8(k + i) on. -/
theorem read_fillLoop {len n i j : Nat} (k : Nat) (g : Words) (m : Memory) (hi : i < n) (hj : j < 8)
    (hlen : 8 * (k + i) + j < len) : (fillLoop len n k g m).2.read (8 * (k + i) + j) = some (byteOf (nthDraw g i) j) := by
  induction n generalizing k g m i with
  | zero => omega
  | succ n ih =>
    cases i with
    | zero => exact (read_fillLoop_before len n _ _ (by omega)).trans (read_fillChunk_inside _ m hj hlen)
    | succ i =>
      rw [show k + (i + 1) = k + 1 + i by omega] at hlen ⊢
      exact ih (k + 1) (drawNext g) _ (by omega) hlen

/-- A command that is accepted and has a completion step ends with it. -/
theorem exec_of_accepts {i : Instr} {s t : State} (h : accepts i s = true)
    (ht : completionOf i s.args (accept i s) = some t) : exec i s = .next t := by
  rw [exec_eq, runCommand_accepted _ h, ht, Option.getD_some]

theorem badContext_fill {p : Params} {c : Nat} (h : c < p.nctx) : badContext p (.fill c) = false :=
  Bool.or_eq_false_iff.2 ⟨decide_eq_false (Nat.not_le.2 h), rfl⟩

theorem fillCheck_none {p : Params} {a : Args} (h : a.a0.toNat ≤ p.outbufBytes) : fillCheck p a = none :=
  if_neg (by omega)

theorem accepts_fill {s : State} {c : Nat} (hready : s.Ready) (hdraw : s.CanDraw c)
    (hlen : s.args.a0.toNat ≤ s.cfg.outbufBytes) : accepts (.fill c) s = true := by
  obtain ⟨hfault, hbusy⟩ := hready
  obtain ⟨hctx, hseeded⟩ := hdraw
  exact (accepts_iff _ s).2 ⟨hfault, hbusy,
    (checkFault_none_iff _ s).2 ⟨badContext_fill hctx, fun _ => hseeded, fillCheck_none hlen⟩⟩

/-- A command that puts new words into a seeded context and ends leaves a completed command's state. -/
theorem finish_setWords_accept {s : State} {c : Nat} (hseeded : s.seeded c = true) (i : Instr) (w : Words)
    (r0 r1 : Word) (d : Nat) : finish r0 r1 d ((accept i s).setWords c w) = s.completed c w r0 r1 d := by
  have hbit : (accept i s).seeded c = true := hseeded
  rw [State.setWords, hbit]
  rfl

/-- The bytes a FILL of `len` bytes on context `c` leaves in OUTBUF. -/
def filledOutbuf (s : State) (c len : Nat) : Memory := (fillLoop len (fillDraws len) 0 (s.words c) s.outbuf).2

/-- What a FILL that passes its checks leaves. -/
theorem exec_fill {s : State} {c : Nat} (hready : s.Ready) (hdraw : s.CanDraw c)
    (hlen : s.args.a0.toNat ≤ s.cfg.outbufBytes) :
    exec (.fill c) s = .next { s.completed c (wordsAfter (fillDraws s.args.a0.toNat) (s.words c)) 0#64 0#64
      (fillDraws s.args.a0.toNat) with outbuf := filledOutbuf s c s.args.a0.toNat } := by
  refine exec_of_accepts (accepts_fill hready hdraw hlen) ?_
  rw [← finish_setWords_accept hdraw.2 (.fill c), ← fillLoop_words _ _ 0 _ s.outbuf]
  rfl

/-- Each byte below `len` is a byte of the draw at its place. -/
theorem read_filledOutbuf (s : State) (c : Nat) {len k j : Nat} (hj : j < 8) (hlen : 8 * k + j < len) :
    (filledOutbuf s c len).read (8 * k + j) = some (byteOf (nthDraw (s.words c) k) j) := by
  have hk : k < fillDraws len := by
    unfold fillDraws
    omega
  have hread := read_fillLoop (len := len) 0 (s.words c) s.outbuf hk hj
  rw [Nat.zero_add] at hread
  exact hread hlen

/-- A read inside eight bytes that hold a word returns the word's bits at its place. -/
theorem memRead_of_bytes {t : State} {x : Word} {k j n : Nat} (hn : n ∈ [1, 2, 4, 8]) (halign : j % n = 0)
    (hin : j + n ≤ 8) (hk : 8 * (k + 1) ≤ t.cfg.outbufBytes)
    (hbytes : ∀ i < 8, t.outbuf.read (8 * k + i) = some (byteOf x i)) :
    (memRead (0x800 + 8 * k + j) n t).response = .data ((x.extractLsb' (8 * j) (8 * n)).setWidth 64) := by
  have hwidth : ∀ n ∈ [1, 2, 4, 8], 8 % n = 0 ∧ 0 < n := by decide
  obtain ⟨hdvd, hpos⟩ := hwidth n hn
  have hoff : (8 * k + j) % n = 0 := by simp [Nat.add_mod, Nat.mul_mod, hdvd, halign]
  have hread : outbufRead t (8 * k + j) n = littleEndian ((List.range n).map fun i => byteOf x (j + i)) := by
    refine congrArg littleEndian (List.map_congr_left fun i hi => ?_)
    have hi : i < n := List.mem_range.1 hi
    rw [Nat.add_assoc]
    exact outbufByte_of_read (hbytes (j + i) (by omega)) _
  rw [Nat.add_assoc, memRead_outbuf_response hn hoff (by omega), hread, littleEndian_map_byteOf]

/-- Settles O40: the bytes of draw k stand in OUTBUF from byte 8k on, and each read takes some of them. -/
theorem readsAfterFillSeeTheDraws : Obligations.ReadsAfterFillSeeTheDraws := by
  intro s t c k _ hready hdraw hlen hk h x
  have ht := Host.Outcome.next.inj ((exec_fill hready hdraw hlen).symm.trans h)
  have hsize : 8 * (k + 1) ≤ t.cfg.outbufBytes := by
    rw [← ht]
    exact hk.trans hlen
  have hbytes (i : Nat) (hi : i < 8) : t.outbuf.read (8 * k + i) = some (byteOf x i) := by
    rw [← ht]
    exact read_filledOutbuf s c hi (by omega)
  have hread {j n : Nat} (hn : n ∈ [1, 2, 4, 8]) (halign : j % n = 0) (hin : j + n ≤ 8) :=
    memRead_of_bytes hn halign hin hsize hbytes
  refine ⟨?_, hread (j := 0) (n := 4) (by decide) rfl (by decide), hread (j := 4) (n := 4) (by decide) rfl (by decide),
    fun j hj => hread (n := 1) (by decide) (Nat.mod_one j) hj⟩
  exact (hread (j := 0) (n := 8) (by decide) rfl (by decide)).trans (by simp)

end Sys2Proof.Machine

/-! # The encoding: command words, commands and the rows of the opcode map (spec/30_encoding.md R71 to R78, R84) -/

namespace Sys2Proof.Machine

/-! ### The fields of a command -/

theorem op_mem_listedOps (i : Instr) : i.op ∈ listedOps := by
  cases i <;> simp [Instr.op, listedOps]

theorem ty_mem_legalTy (i : Instr) : i.ty ∈ legalTy i.op := by
  cases i <;> simp [Instr.op, Instr.ty, legalTy]

/-- BK is 00 outside RANGE.t (R73). -/
theorem bounds_of_op_ne {i : Instr} (h : i.op ≠ 0x18#8) : i.lx = false ∧ i.ux = false := by
  cases i
  case rangeU8 | rangeU16 | rangeU32 | rangeU64 | rangeI8 | rangeI16 | rangeI32 | rangeI64 => exact absurd rfl h
  all_goals exact ⟨rfl, rfl⟩

/-- DST is a field of CLONE alone (R74). -/
theorem dst?_isSome_iff (i : Instr) : i.dst?.isSome = true ↔ i.op = 0x04#8 := by
  cases i <;> simp [Instr.op, Instr.dst?]

theorem dst?_of_op_ne {i : Instr} (h : i.op ≠ 0x04#8) : i.dst? = none :=
  Option.not_isSome_iff_eq_none.1 (h ∘ (dst?_isSome_iff i).1)

theorem rowOf_fields (i : Instr) : rowOf i.op i.ty i.ctx (i.dst?.getD 0) i.lx i.ux = some i := by
  cases i <;> rfl

/-- A listed OP with a legal TY selects a command, and the command has all the fields it was selected with where BK is 00
outside RANGE.t and DST is 0 outside CLONE. -/
theorem exists_rowOf {op : BitVec 8} {ty : BitVec 4} {c d : Nat} {lx ux : Bool} (hop : op ∈ listedOps)
    (hty : ty ∈ legalTy op) (hbk : op ≠ 0x18#8 → lx = false ∧ ux = false) (hdst : op ≠ 0x04#8 → d = 0) :
    ∃ i, rowOf op ty c d lx ux = some i ∧
      i.op = op ∧ i.ty = ty ∧ i.ctx = c ∧ i.dst?.getD 0 = d ∧ i.lx = lx ∧ i.ux = ux := by
  by_cases hrange : op = 0x18#8
  · subst hrange
    obtain rfl := hdst (by decide)
    fin_cases hty <;> exact ⟨_, rfl, rfl, rfl, rfl, rfl, rfl, rfl⟩
  obtain ⟨rfl, rfl⟩ := hbk hrange
  by_cases hclone : op = 0x04#8
  · subst hclone
    fin_cases hty
    exact ⟨_, rfl, rfl, rfl, rfl, rfl, rfl, rfl⟩
  obtain rfl := hdst hclone
  have hother : op ∈ listedOps.filter fun o => o ≠ 0x18#8 ∧ o ≠ 0x04#8 :=
    List.mem_filter.2 ⟨hop, decide_eq_true ⟨hrange, hclone⟩⟩
  fin_cases hother <;> fin_cases hty <;> exact ⟨_, rfl, rfl, rfl, rfl, rfl, rfl, rfl⟩

/-! ### The commands a word decodes to -/

/-- The checks of R84, all passed. -/
abbrev PassesChecks (w : CmdWord) : Prop :=
  reservedHigh w = 0#8 ∧ reservedLow w = 0#2 ∧ opField w ∈ listedOps ∧ tyField w ∈ legalTy (opField w) ∧
    (opField w ≠ 0x18#8 → bkField w = 0#2) ∧ (opField w ≠ 0x04#8 → dstField w = 0#4)

/-- A word holds the fields of a command, in the bits that R71 gives them. -/
structure HoldsFields (w : CmdWord) (i : Instr) : Prop where
  op : i.op = opField w
  ty : i.ty = tyField w
  ctx : i.ctx = (ctxField w).toNat
  dst : i.dst?.getD 0 = (dstField w).toNat
  lx : i.lx = w.getLsbD 16
  ux : i.ux = w.getLsbD 17
  reservedHigh : reservedHigh w = 0#8
  reservedLow : reservedLow w = 0#2

@[simp] theorem getLsbD_bkField_zero (w : CmdWord) : (bkField w).getLsbD 0 = w.getLsbD 16 := by
  simp [bkField]

@[simp] theorem getLsbD_bkField_one (w : CmdWord) : (bkField w).getLsbD 1 = w.getLsbD 17 := by
  simp [bkField]

theorem bkField_eq_zero_iff (w : CmdWord) : bkField w = 0#2 ↔ w.getLsbD 16 = false ∧ w.getLsbD 17 = false := by
  have hbits : ∀ b : BitVec 2, b = 0#2 ↔ b.getLsbD 0 = false ∧ b.getLsbD 1 = false := by decide
  rw [hbits, getLsbD_bkField_zero, getLsbD_bkField_one]

theorem HoldsFields.unique {w : CmdWord} {i j : Instr} (hi : HoldsFields w i) (hj : HoldsFields w j) : i = j := by
  have hrow := rowOf_fields i
  rw [hi.op, hi.ty, hi.ctx, hi.dst, hi.lx, hi.ux, ← hj.op, ← hj.ty, ← hj.ctx, ← hj.dst, ← hj.lx, ← hj.ux,
    rowOf_fields j] at hrow
  exact (Option.some.inj hrow).symm

theorem HoldsFields.passesChecks {w : CmdWord} {i : Instr} (h : HoldsFields w i) : PassesChecks w := by
  refine ⟨h.reservedHigh, h.reservedLow, ?_, ?_, fun hop => ?_, fun hop => ?_⟩
  · exact h.op ▸ op_mem_listedOps i
  · exact h.op ▸ h.ty ▸ ty_mem_legalTy i
  · rw [bkField_eq_zero_iff, ← h.lx, ← h.ux]
    exact bounds_of_op_ne (h.op ▸ hop)
  · have hdst := h.dst
    rw [dst?_of_op_ne (h.op ▸ hop)] at hdst
    exact BitVec.eq_of_toNat_eq hdst.symm

theorem passesChecks_of_decode {w : CmdWord} {i : Instr} (h : decode w = .ok i) : PassesChecks w := by
  unfold decode at h
  split_ifs at h with hreserved hop hty hbk hdst
  simp only [not_or, not_and_or, not_not] at hreserved hop hty hbk hdst
  obtain ⟨hhigh, hlow⟩ := hreserved
  exact ⟨hhigh, hlow, hop, hty, hbk.resolve_right, hdst.resolve_right⟩

/-- A word that passes the checks decodes: no later step of the decoder rejects it. -/
theorem exists_decode {w : CmdWord} (h : PassesChecks w) : ∃ i, decode w = .ok i ∧ HoldsFields w i := by
  obtain ⟨hhigh, hlow, hop, hty, hbk, hdst⟩ := h
  obtain ⟨i, hrow, op, ty, ctx, dst, lx, ux⟩ :=
    exists_rowOf (c := (ctxField w).toNat) (d := (dstField w).toNat) hop hty
      (fun hne => (bkField_eq_zero_iff w).1 (hbk hne)) (fun hne => by rw [hdst hne]; rfl)
  refine ⟨i, ?_, op, ty, ctx, dst, lx, ux, hhigh, hlow⟩
  have hbk' : ¬ (bkField w ≠ 0#2 ∧ opField w ≠ 0x18#8) := fun ⟨hne, ho⟩ => hne (hbk ho)
  have hdst' : ¬ (dstField w ≠ 0#4 ∧ opField w ≠ 0x04#8) := fun ⟨hne, ho⟩ => hne (hdst ho)
  unfold decode
  rw [if_neg (by simp [hhigh, hlow]), if_neg (not_not.2 hop), if_neg (not_not.2 hty), if_neg hbk', if_neg hdst',
    getLsbD_bkField_zero, getLsbD_bkField_one, hrow]

/-- What the decoder does, said once: it gives the one command whose fields the word holds. -/
theorem decode_eq_ok_iff {w : CmdWord} {i : Instr} : decode w = .ok i ↔ HoldsFields w i := by
  constructor
  · intro h
    obtain ⟨j, hj, hfields⟩ := exists_decode (passesChecks_of_decode h)
    cases h.symm.trans hj
    exact hfields
  · intro h
    obtain ⟨j, hj, hfields⟩ := exists_decode h.passesChecks
    rwa [h.unique hfields]

/-- Settles O4: the word holds the fields of the command, and only CLONE has a DST. -/
theorem decoderReadsTheFields : Obligations.DecoderReadsTheFields := by
  intro w i h
  obtain ⟨op, ty, ctx, dst, lx, ux, hhigh, hlow⟩ := decode_eq_ok_iff.1 h
  exact ⟨op, ctx, ty, lx, ux, dst, dst?_isSome_iff i, hlow, hhigh⟩

/-! ### The word of a command -/

/-- A well-formed command's word holds its fields. -/
theorem holdsFields_encode {i : Instr} (h : WellFormed i) : HoldsFields (encode i) i := by
  obtain ⟨hctx, hdst⟩ := h
  constructor
  case op => exact BitVec.extractLsb'_append_eq_right.symm
  all_goals unfold encode
  case ctx =>
    unfold ctxField
    rw [BitVec.extractLsb'_append_eq_of_le (by decide), BitVec.extractLsb'_append_eq_right]
    exact (Nat.mod_eq_of_lt hctx).symm
  case ty =>
    unfold tyField
    iterate 2 rw [BitVec.extractLsb'_append_eq_of_le (by decide)]
    exact BitVec.extractLsb'_append_eq_right.symm
  case lx =>
    iterate 4 rw [BitVec.getLsbD_append]
    simp
  case ux =>
    iterate 5 rw [BitVec.getLsbD_append]
    simp
  case reservedLow =>
    unfold reservedLow
    iterate 5 rw [BitVec.extractLsb'_append_eq_of_le (by decide)]
    exact BitVec.extractLsb'_append_eq_right
  case dst =>
    unfold dstField
    iterate 6 rw [BitVec.extractLsb'_append_eq_of_le (by decide)]
    rw [BitVec.extractLsb'_append_eq_right]
    exact (Nat.mod_eq_of_lt hdst).symm
  case reservedHigh =>
    unfold reservedHigh
    iterate 7 rw [BitVec.extractLsb'_append_eq_of_le (by decide)]
    rfl

/-- Settles O1: the word of a well-formed command holds its fields, and decoding finds the command that they belong to. -/
theorem decodeEncodeIsIdentity : Obligations.DecodeEncodeIsIdentity := fun _ h =>
  decode_eq_ok_iff.2 (holdsFields_encode h)

theorem ofBool_getLsbD {n : Nat} (w : BitVec n) (k : Nat) : BitVec.ofBool (w.getLsbD k) = w.extractLsb' k 1 := by
  have hbit : ∀ b : BitVec 1, BitVec.ofBool (b == 1#1) = b := by decide
  rw [BitVec.getLsbD_eq_extractLsb', hbit]

/-- A word is made of its fields (R71). -/
theorem append_fields (w : CmdWord) :
    reservedHigh w ++ dstField w ++ reservedLow w ++ BitVec.ofBool (w.getLsbD 17) ++ BitVec.ofBool (w.getLsbD 16) ++
      tyField w ++ ctxField w ++ opField w = w := by
  simp only [ofBool_getLsbD, reservedHigh, dstField, reservedLow, tyField, ctxField, opField]
  iterate 7 rw [BitVec.extractLsb'_append_extractLsb'_eq_extractLsb' (by decide)]
  exact BitVec.extractLsb'_eq_self

theorem HoldsFields.wellFormed {w : CmdWord} {i : Instr} (h : HoldsFields w i) : WellFormed i :=
  ⟨h.ctx.trans_lt (ctxField w).isLt, h.dst.trans_lt (dstField w).isLt⟩

theorem HoldsFields.encode_eq {w : CmdWord} {i : Instr} (h : HoldsFields w i) : encode i = w := by
  unfold encode
  rw [h.op, h.ty, h.ctx, h.dst, h.lx, h.ux, BitVec.ofNat_toNat, BitVec.ofNat_toNat, BitVec.setWidth_eq, BitVec.setWidth_eq,
    ← h.reservedHigh, ← h.reservedLow]
  exact append_fields w

/-- Settles O2: the word is made of the fields of the command it decodes to. -/
theorem encodeDecodeIsIdentity : Obligations.EncodeDecodeIsIdentity := fun _ _ h =>
  have hfields := decode_eq_ok_iff.1 h
  ⟨hfields.wellFormed, hfields.encode_eq⟩

/-! ### The rows of the opcode map -/

theorem row_mem_opcodeRows (i : Instr) : i.row ∈ opcodeRows := by
  cases i <;> simp [Instr.row, opcodeRows, seedingRows, randRows, rangeRows]

/-- The mask of a row covers every bit that the decoder checks for the row's OP. -/
abbrev MaskCoversChecks (r : OpcodeRow) : Prop :=
  reservedHigh r.mask = BitVec.allOnes 8 ∧ reservedLow r.mask = BitVec.allOnes 2 ∧ opField r.mask = BitVec.allOnes 8 ∧
    tyField r.mask = BitVec.allOnes 4 ∧ (opField r.pattern ≠ 0x18#8 → bkField r.mask = BitVec.allOnes 2) ∧
    (opField r.pattern ≠ 0x04#8 → dstField r.mask = BitVec.allOnes 4)

theorem opcodeRows_pass_and_cover : ∀ r ∈ opcodeRows, PassesChecks r.pattern ∧ MaskCoversChecks r := by decide

/-- Where the mask covers a field, a word that selects the row has the pattern's field. -/
theorem extractLsb'_eq_of_selects {r : OpcodeRow} {w : CmdWord} {start len : Nat} (h : r.Selects w)
    (hmask : r.mask.extractLsb' start len = BitVec.allOnes len) :
    w.extractLsb' start len = r.pattern.extractLsb' start len := by
  rw [← h, BitVec.extractLsb'_and, hmask, BitVec.and_allOnes]

theorem op_ty_of_selects {r : OpcodeRow} {w : CmdWord} (hr : r ∈ opcodeRows) (h : r.Selects w) :
    opField w = opField r.pattern ∧ tyField w = tyField r.pattern := by
  obtain ⟨-, -, -, hop, hty, -⟩ := opcodeRows_pass_and_cover r hr
  exact ⟨extractLsb'_eq_of_selects h hop, extractLsb'_eq_of_selects h hty⟩

theorem passesChecks_of_selects {r : OpcodeRow} {w : CmdWord} (hr : r ∈ opcodeRows) (h : r.Selects w) : PassesChecks w := by
  obtain ⟨⟨phigh, plow, pop, pty, pbk, pdst⟩, mhigh, mlow, -, -, mbk, mdst⟩ := opcodeRows_pass_and_cover r hr
  obtain ⟨hop, hty⟩ := op_ty_of_selects hr h
  unfold PassesChecks
  rw [hop, hty]
  exact ⟨(extractLsb'_eq_of_selects h mhigh).trans phigh, (extractLsb'_eq_of_selects h mlow).trans plow, pop, pty,
    fun hne => (extractLsb'_eq_of_selects h (mbk hne)).trans (pbk hne),
    fun hne => (extractLsb'_eq_of_selects h (mdst hne)).trans (pdst hne)⟩

/-- No two rows have the same OP and TY. -/
theorem opcodeRows_nodup_op_ty : (opcodeRows.map fun r => (opField r.pattern, tyField r.pattern)).Nodup := by decide

theorem row_unique {r q : OpcodeRow} {w : CmdWord} (hr : r ∈ opcodeRows) (hq : q ∈ opcodeRows) (hrw : r.Selects w)
    (hqw : q.Selects w) : r = q := by
  obtain ⟨hrop, hrty⟩ := op_ty_of_selects hr hrw
  obtain ⟨hqop, hqty⟩ := op_ty_of_selects hq hqw
  exact List.inj_on_of_nodup_map opcodeRows_nodup_op_ty hr hq (Prod.ext (hrop.symm.trans hqop) (hrty.symm.trans hqty))

open Sys2Proof.Laws in
/-- The facts of `Laws/PerInstr.lean`, gathered over the constructors. -/
theorem row_selects_encode : ∀ i : Instr, i.row.Selects (encode i)
  | .seedU64 c => RowSelected.seedU64 c
  | .seedBytes c => RowSelected.seedBytes c
  | .seedEnt c => RowSelected.seedEnt c
  | .clone c d => RowSelected.clone c d
  | .next c => RowSelected.next c
  | .jump c => RowSelected.jump c
  | .ljump c => RowSelected.ljump c
  | .randU8 c => RowSelected.randU8 c
  | .randU16 c => RowSelected.randU16 c
  | .randU32 c => RowSelected.randU32 c
  | .randU64 c => RowSelected.randU64 c
  | .randU128 c => RowSelected.randU128 c
  | .randI8 c => RowSelected.randI8 c
  | .randI16 c => RowSelected.randI16 c
  | .randI32 c => RowSelected.randI32 c
  | .randI64 c => RowSelected.randI64 c
  | .randI128 c => RowSelected.randI128 c
  | .randBool c => RowSelected.randBool c
  | .randF32 c => RowSelected.randF32 c
  | .randF64 c => RowSelected.randF64 c
  | .rangeU8 c lx ux => RowSelected.rangeU8 c lx ux
  | .rangeU16 c lx ux => RowSelected.rangeU16 c lx ux
  | .rangeU32 c lx ux => RowSelected.rangeU32 c lx ux
  | .rangeU64 c lx ux => RowSelected.rangeU64 c lx ux
  | .rangeI8 c lx ux => RowSelected.rangeI8 c lx ux
  | .rangeI16 c lx ux => RowSelected.rangeI16 c lx ux
  | .rangeI32 c lx ux => RowSelected.rangeI32 c lx ux
  | .rangeI64 c lx ux => RowSelected.rangeI64 c lx ux
  | .rangeF32 c => RowSelected.rangeF32 c
  | .rangeF64 c => RowSelected.rangeF64 c
  | .fill c => RowSelected.fill c

/-! ### An illegal word -/

theorem issue_none_of_ready {s : State} (h : s.Ready) : issue none s = s.faulted .illegalCommand := by
  obtain ⟨hfault, hbusy⟩ := h
  simp [issue, issueFault, hfault, hbusy, raiseFault, State.faulted]

theorem issueWord_error {w : CmdWord} {e : DecodeReject} (s : State) (h : decode w = .error e) :
    issueWord w s = issue none s := by
  rw [issueWord, h]
  rfl

/-- Settles O3: a word that decodes is its command's word, and so selects the command's row; a word that selects a row passes
the decoder's checks, and so is never rejected. -/
theorem everyWordSelectsOneRowOrIsIllegal : Obligations.EveryWordSelectsOneRowOrIsIllegal := by
  refine ⟨rfl, fun r hr q hq w => row_unique hr hq, fun w => ?_⟩
  cases hd : decode w with
  | ok i =>
    have hword : encode i = w := (decode_eq_ok_iff.1 hd).encode_eq
    exact .inl ⟨i, rfl, row_mem_opcodeRows i, hword ▸ row_selects_encode i⟩
  | error e =>
    refine .inr ⟨⟨e, rfl⟩, fun r hr hsel => ?_, fun s hs => ?_⟩
    · obtain ⟨i, hi, -⟩ := exists_decode (passesChecks_of_selects hr hsel)
      cases hd.symm.trans hi
    · rw [issueWord_error s hd, commandWord_error s hd, issue_none_of_ready hs]
      exact ⟨rfl, rfl⟩

/-- Settles O5: the decoder evaluated on the eight words. -/
theorem programWordsDecode : Obligations.ProgramWordsDecode := by
  unfold Obligations.ProgramWordsDecode
  decide

end Sys2Proof.Machine

/-! # Seeding: the mixer, the commands that write a whole context, and what equal words give (spec/40_seeding.md) -/

namespace Sys2Proof.Machine

/-! ### The mixer and Expand (R101, R102, R105) -/

/-- Settles O24: each round of `mix` is one-to-one, and a one-to-one function on the finitely many words is onto. -/
theorem mixIsABijection : Obligations.MixIsABijection :=
  ⟨fun _ => rfl, Finite.injective_iff_bijective.1 mix_injective⟩

/-- The points at which `expand` reads the mixer are the seed plus 1 to 4 times GAMMA. -/
theorem expand_eq (seed : Word) : expand seed =
    ⟨mix (seed + gamma), mix (seed + 2#64 * gamma), mix (seed + 3#64 * gamma), mix (seed + 4#64 * gamma)⟩ := by
  have h2 : gamma + gamma = 2#64 * gamma := by decide
  have h3 : 2#64 * gamma + gamma = 3#64 * gamma := by decide
  have h4 : 3#64 * gamma + gamma = 4#64 * gamma := by decide
  simp only [expand, BitVec.add_assoc, h2, h3, h4]

theorem gammaMultiples_nodup : [gamma, 2#64 * gamma, 3#64 * gamma, 4#64 * gamma].Nodup := by decide

/-- The four words are the images of distinct words under a one-to-one function. -/
theorem expand_nodup (seed : Word) :
    [(expand seed).s0, (expand seed).s1, (expand seed).s2, (expand seed).s3].Nodup := by
  rw [expand_eq]
  have hinj : Function.Injective fun x => mix (seed + x) :=
    mix_injective.comp fun _ _ h => (BitVec.add_right_inj seed).1 h
  exact gammaMultiples_nodup.map hinj

/-- Settles O25: `mix` is one-to-one, and `bytesSeed` replaces the all-zero seed by Expand(0). -/
theorem seedingNeverGivesTheZeroState : Obligations.SeedingNeverGivesTheZeroState :=
  ⟨fun seed => ⟨expand_nodup seed, expand_ne_zero seed⟩, bytesSeed_ne_zero⟩

/-! ### The seeding commands and CLONE (R103, R104, R107, R108) -/

/-- A ready block accepts a command that passes its own checks. -/
theorem accepts_of_ready {i : Instr} {s : State} (hready : s.Ready) (hbad : badContext s.cfg i = false)
    (hseeded : readsContext i = true → s.seeded i.ctx = true) (hop : operandFault s.cfg s.args i = none) :
    accepts i s = true :=
  (accepts_iff i s).2 ⟨hready.1, hready.2, (checkFault_none_iff i s).2 ⟨hbad, hseeded, hop⟩⟩

theorem badContext_of_lt {p : Params} {i : Instr} (hctx : i.ctx < p.nctx) (hdst : ∀ d, i.dst? = some d → d < p.nctx) :
    badContext p i = false := by
  refine Bool.or_eq_false_iff.2 ⟨decide_eq_false (Nat.not_le.2 hctx), ?_⟩
  cases hd : i.dst? with
  | none => rfl
  | some d => exact decide_eq_false (Nat.not_le.2 (hdst d hd))

/-- The end of a command that seeds context `c`, seen from the state that issued it. -/
theorem completeSeed_accept (i : Instr) (c : Nat) (w : Words) (s : State) :
    completeSeed c w (accept i s) = s.completed c w 0#64 0#64 0 := rfl

/-- Settles O26: the words are `Expand(ARG[0])`, each point of the mixer written as a multiple of GAMMA. -/
theorem seedU64Completes : Obligations.SeedU64Completes := by
  intro s c hready hc
  have hacc : accepts (.seedU64 c) s = true := accepts_of_ready hready (badContext_of_lt hc nofun) nofun rfl
  refine exec_of_accepts hacc ?_
  rw [completionOf, completeSeedU64, completeSeed_accept, expand_eq]
  rfl

theorem bytesSeed_zero : bytesSeed Args.zero = expand 0#64 := rfl

theorem bytesSeed_of_ne_zero {a : Args} (h : a ≠ Args.zero) : bytesSeed a = ⟨a.a0, a.a1, a.a2, a.a3⟩ := by
  refine if_neg fun ⟨h0, h1, h2, h3⟩ => h ?_
  cases a
  simp_all [Args.zero]

theorem exec_seedBytes {s : State} {c : Nat} (hready : s.Ready) (hc : c < s.cfg.nctx) :
    exec (.seedBytes c) s = .next (s.completed c (bytesSeed s.args) 0#64 0#64 0) :=
  exec_of_accepts (accepts_of_ready hready (badContext_of_lt hc nofun) nofun rfl) rfl

/-- Settles O27: the words are those of `bytesSeed`, which tells the all-zero seed from the others. -/
theorem seedBytesCompletes : Obligations.SeedBytesCompletes := by
  intro s c hready hc
  rw [exec_seedBytes hready hc]
  refine ⟨fun h => ?_, fun h => ?_⟩
  · rw [h, bytesSeed_zero]
  · rw [bytesSeed_of_ne_zero h]

theorem takeEntropy_zeros (k : Nat) : takeEntropy (List.replicate k 0#64) = none := by
  induction k with
  | zero => rfl
  | succ k ih => exact ih

theorem takeEntropy_zeros_append {v : Word} (hv : v ≠ 0#64) (k : Nat) (rest : List Word) :
    takeEntropy (List.replicate k 0#64 ++ v :: rest) = some (v, rest) := by
  induction k with
  | zero => exact if_neg hv
  | succ k ih => exact ih

theorem completeSeedEnt_of_takeEntropy {s : State} {v : Word} {rest : List Word} (h : takeEntropy s.entropy = some (v, rest))
    (c : Nat) (a : Args) : completeSeedEnt c a s = some (completeSeed c (expand v) { s with entropy := rest }) := by
  rw [completeSeedEnt, h]

theorem completeSeedEnt_waits {s : State} (h : takeEntropy s.entropy = none) (c : Nat) (a : Args) :
    completeSeedEnt c a s = none := by
  rw [completeSeedEnt, h]

/-- Settles O28: by what `takeEntropy` finds behind the zero words. -/
theorem seedEntTakesTheFirstNonZeroWord : Obligations.SeedEntTakesTheFirstNonZeroWord := by
  intro s c hready hc
  have hacc : accepts (.seedEnt c) s = true := accepts_of_ready hready (badContext_of_lt hc nofun) nofun rfl
  refine ⟨fun k v rest hv hent => ?_, fun k hent => ?_⟩
  · have htake : takeEntropy (accept (.seedEnt c) s).entropy = some (v, rest) := by
      rw [accept_entropy, hent, takeEntropy_zeros_append hv]
    exact exec_of_accepts hacc (completeSeedEnt_of_takeEntropy htake c s.args)
  · have hwait : completionOf (.seedEnt c) s.args (accept (.seedEnt c) s) = none := by
      refine completeSeedEnt_waits ?_ c s.args
      rw [accept_entropy, hent, takeEntropy_zeros]
    refine ⟨?_, ?_⟩
    · rw [exec_eq, runCommand_accepted _ hacc, hwait]
      rfl
    · change completionTurn (accept (.seedEnt c) s) = accept (.seedEnt c) s
      rw [completionTurn_accept, hwait, Option.getD_none]

/-- Settles O29: the completion step seeds DST with the words of CTX. -/
theorem cloneCompletes : Obligations.CloneCompletes := by
  intro s c d hready ⟨hc, hseeded⟩ hd
  have hbad : badContext s.cfg (.clone c d) = false := badContext_of_lt hc fun _ h => Option.some.inj h ▸ hd
  exact exec_of_accepts (accepts_of_ready hready hbad (fun _ => hseeded) rfl) rfl

/-! ### What a drawing command computes from the words of its context (R109, R151) -/

/-- What the completion step of a drawing command or a jump computes. -/
structure DrawResult where
  words : Words
  res0 : Word
  res1 : Word
  draws : Nat
  outbuf : Memory

/-- The state that such a completion step on context `c` leaves. -/
def DrawResult.leave (r : DrawResult) (c : Nat) (s : State) : State :=
  finish r.res0 r.res1 r.draws { s.setWords c r.words with outbuf := r.outbuf }

/-- The completion steps `f c` of a command accepted in `s` have one result on every context `c` that holds the words `w`.
`j` is the command in the latch. -/
def DependsOnWords (s : State) (w : Words) (f : Nat → State → Option State) : Prop :=
  ∃ r : Option DrawResult, ∀ c j, s.words c = w → f c (accept j s) = r.map (·.leave c s)

section
variable (s : State) (w : Words)

theorem completeDraw_dependsOnWords (f : Word → Word) : DependsOnWords s w fun c t => some (completeDraw c f t) :=
  ⟨some ⟨drawNext w, f (drawOutput w), 0#64, 1, s.outbuf⟩, by rintro c j rfl; rfl⟩

theorem completeRangeFloat_dependsOnWords (f : FloatFmt) (qnan : Params → Word) (a : Args) :
    DependsOnWords s w fun c t => some (completeRangeFloat f (qnan t.cfg) c a t) :=
  completeDraw_dependsOnWords s w fun x => deliverFloat f (qnan s.cfg) (scaleFloat f (f.ofReg a.a0) (f.ofReg a.a1) x)

theorem completeRandWide_dependsOnWords : DependsOnWords s w fun c t => some (completeRandWide c t) :=
  ⟨some ⟨drawNext (drawNext w), drawOutput w, drawOutput (drawNext w), 2, s.outbuf⟩, by rintro c j rfl; rfl⟩

theorem completeJumpWith_dependsOnWords (p : Words) : DependsOnWords s w fun c t => some (completeJumpWith p c t) :=
  ⟨some ⟨jumpWith p w, 0#64, 0#64, 256, s.outbuf⟩, by rintro c j rfl; rfl⟩

theorem completeFill_dependsOnWords (a : Args) : DependsOnWords s w fun c => completeFill c a := by
  let filled := fillLoop a.a0.toNat (fillDraws a.a0.toNat) 0 w s.outbuf
  exact ⟨some ⟨filled.1, 0#64, 0#64, fillDraws a.a0.toNat, filled.2⟩, by rintro c j rfl; rfl⟩

theorem completeRange_dependsOnWords (ty : IntTy) (lx ux : Bool) (a : Args) :
    DependsOnWords s w fun c => completeRange ty c lx ux a := by
  unfold completeRange
  cases rangeBounds ty lx ux a with
  | none => exact ⟨none, fun _ _ _ => rfl⟩
  | some bounds =>
    obtain ⟨lo, up⟩ := bounds
    by_cases hfull : lo = ty.minVal ∧ up = ty.maxVal
    · simp only [if_pos hfull]
      exact completeDraw_dependsOnWords s w _
    · simp only [if_neg hfull]
      cases hlemire : lemire draw loopFuel (BitVec.ofInt 64 (up - lo + 1)) w with
      | none =>
        refine ⟨none, fun c j hw => ?_⟩
        have hw' : (accept j s).words c = w := hw
        simp only [hw', hlemire, Option.map_none]
      | some result =>
        obtain ⟨h, g, d⟩ := result
        refine ⟨some ⟨g, ty.extend (BitVec.ofInt ty.bits (lo + h.toNat)), 0#64, d, s.outbuf⟩, fun c j hw => ?_⟩
        have hw' : (accept j s).words c = w := hw
        simp only [hw', hlemire]
        rfl

/-- Every command but the seeding ones and CLONE computes its results from the words of its context. -/
theorem completionOf_dependsOnWords {i : Instr} (hi : i.op ∉ [0x01#8, 0x02#8, 0x03#8, 0x04#8]) (a : Args) :
    DependsOnWords s w fun c => completionOf (withContext c i) a := by
  cases i
  case seedU64 | seedBytes | seedEnt | clone => exact absurd hi (by simp [Instr.op])
  case jump | ljump => exact completeJumpWith_dependsOnWords s w _
  case randU128 | randI128 => exact completeRandWide_dependsOnWords s w
  case rangeU8 | rangeU16 | rangeU32 | rangeU64 | rangeI8 | rangeI16 | rangeI32 | rangeI64 =>
    exact completeRange_dependsOnWords s w _ _ _ a
  case rangeF32 => exact completeRangeFloat_dependsOnWords s w binary32 (fun p => p.qnan32.setWidth 64) a
  case rangeF64 => exact completeRangeFloat_dependsOnWords s w binary64 Params.qnan64 a
  case fill => exact completeFill_dependsOnWords s w a
  all_goals exact completeDraw_dependsOnWords s w _

end

/-! ### The same command on two contexts -/

@[simp] theorem withContext_ctx (c : Nat) (i : Instr) : (withContext c i).ctx = c := by cases i <;> rfl

@[simp] theorem withContext_dst? (c : Nat) (i : Instr) : (withContext c i).dst? = i.dst? := by cases i <;> rfl

@[simp] theorem operandFault_withContext (p : Params) (a : Args) (c : Nat) (i : Instr) :
    operandFault p a (withContext c i) = operandFault p a i := by cases i <;> rfl

/-- On a context that can draw, the issue step of a drawing command does not depend on which context it is. -/
theorem issueFault_withContext {i : Instr} {s : State} {c : Nat} (hi : i.op ≠ 0x04#8) (hc : s.CanDraw c) :
    issueFault (some (withContext c i)) s = if s.busy then some .overrun else operandFault s.cfg s.args i := by
  obtain ⟨hlt, hseeded⟩ := hc
  have hbad : badContext s.cfg (withContext c i) = false :=
    badContext_of_lt (by simpa using hlt) (by simp [dst?_of_op_ne hi])
  simp [issueFault, checkFault, hbad, hseeded]

theorem issue_eq_of_rejected {i j : Instr} {s : State} (h : issueFault (some i) s = issueFault (some j) s)
    (hrej : accepts i s = false) : issue (some i) s = issue (some j) s := by
  unfold issue
  cases hf : s.fault with
  | true => rfl
  | false =>
    cases hcode : issueFault (some i) s with
    | none => simp [accepts, hf, hcode] at hrej
    | some code => rw [← h, hcode]

/-- Context `c` of `t` and context `d` of `u` hold the same words, and a host reads the same results and STATUS. -/
def SameResults (c d : Nat) (t u : State) : Prop :=
  t.res0 = u.res0 ∧ t.res1 = u.res1 ∧ t.lastDraws = u.lastDraws ∧ t.outbuf = u.outbuf ∧
    t.words c = u.words d ∧ statusWord t = statusWord u

/-- New words in a context leave the SEEDED bits alone. -/
theorem seededNat_setWords (s : State) (c : Nat) (w : Words) :
    seededNat (s.setWords c w).contexts = seededNat s.contexts := by
  refine Nat.eq_of_testBit_eq fun e => ?_
  rw [testBit_seededNat, testBit_seededNat]
  by_cases he : e = c
  · subst he
    exact setWords_seeded_same s e w
  · exact congrArg GenCtx.seeded (setWords_ctx_other s w he)

/-- A result left on either of two contexts looks the same. -/
theorem DrawResult.leave_sameResults (r : DrawResult) {s : State} {c d : Nat} (hc : c < s.contexts.length)
    (hd : d < s.contexts.length) : SameResults c d (r.leave c s) (r.leave d s) := by
  have hwords {e : Nat} (he : e < s.contexts.length) : (r.leave e s).words e = r.words :=
    congrArg GenCtx.words (setWords_ctx_same s r.words he)
  have hseeded (e : Nat) : seededNat (r.leave e s).contexts = seededNat s.contexts := seededNat_setWords s e r.words
  refine ⟨rfl, rfl, rfl, rfl, (hwords hc).trans (hwords hd).symm, ?_⟩
  unfold statusWord
  rw [hseeded c, hseeded d]
  rfl

/-- Settles O59: the issue step answers alike on both contexts, and an accepted command computes its results from the words
alone. -/
theorem sameWordsGiveTheSameResults : Obligations.SameWordsGiveTheSameResults := by
  intro i s t u c d hi hinv hc hd hwords ht hu
  have hclone : i.op ≠ 0x04#8 := fun h => hi (by simp [h])
  have hissue : issueFault (some (withContext c i)) s = issueFault (some (withContext d i)) s :=
    (issueFault_withContext hclone hc).trans (issueFault_withContext hclone hd).symm
  have haccepts : accepts (withContext d i) s = accepts (withContext c i) s := by
    rw [accepts, accepts, hissue]
  rw [exec_eq] at ht hu
  cases ht
  cases hu
  show SameResults c d _ _
  cases hacc : accepts (withContext c i) s with
  | false =>
    rw [runCommand_rejected _ hacc, runCommand_rejected _ (haccepts.trans hacc), issue_eq_of_rejected hissue hacc]
    refine ⟨rfl, rfl, rfl, rfl, ?_, rfl⟩
    rw [State.words, State.words, State.ctx, State.ctx, issue_contexts]
    exact hwords
  | true =>
    obtain ⟨r, hr⟩ := completionOf_dependsOnWords s (s.words d) hi s.args
    beta_reduce at hr
    rw [runCommand_accepted _ hacc, runCommand_accepted _ (haccepts.trans hacc), hr c _ hwords, hr d _ rfl]
    cases r with
    | none => exact ⟨rfl, rfl, rfl, rfl, hwords, rfl⟩
    | some r => exact r.leave_sameResults (hinv.contextCount ▸ hc.1) (hinv.contextCount ▸ hd.1)

end Sys2Proof.Machine

/-! # The generator: NEXT, JUMP and LJUMP (spec/41_generator.md R120 to R127) -/

namespace Sys2Proof.Machine

/-- A command that names one context, on a ready block where that context can draw: if its completion step ends with new words
for the context, it completes. -/
theorem exec_of_canDraw {i : Instr} {s : State} {w : Words} {r0 r1 : Word} {d : Nat} (hready : s.Ready)
    (hdraw : s.CanDraw i.ctx) (hdst : i.dst? = none) (hop : operandFault s.cfg s.args i = none)
    (ht : completionOf i s.args (accept i s) = some (finish r0 r1 d ((accept i s).setWords i.ctx w))) :
    exec i s = .next (s.completed i.ctx w r0 r1 d) := by
  obtain ⟨hctx, hseeded⟩ := hdraw
  have hbad : badContext s.cfg i = false := badContext_of_lt hctx (by simp [hdst])
  refine exec_of_accepts (accepts_of_ready hready hbad (fun _ => hseeded) hop) ?_
  rw [ht, finish_setWords_accept hseeded]

/-! ### NEXT (R120, R121) -/

theorem exec_next {s : State} {c : Nat} (hready : s.Ready) (hdraw : s.CanDraw c) :
    exec (.next c) s = .next (s.completed c (drawNext (s.words c)) (drawOutput (s.words c)) 0#64 1) :=
  exec_of_canDraw (i := .next c) hready hdraw rfl rfl rfl

theorem drawOutput_mk (s0 s1 s2 s3 : Word) : drawOutput ⟨s0, s1, s2, s3⟩ = (s0 + s3).rotateLeft 23 + s0 := by
  rw [drawOutput, rotl64_eq_rotateLeft _ (by decide)]

theorem drawNext_mk (s0 s1 s2 s3 : Word) : drawNext ⟨s0, s1, s2, s3⟩ =
    ⟨s0 ^^^ s1 ^^^ s3, s0 ^^^ s1 ^^^ s2, s0 ^^^ s2 ^^^ (s1 <<< 17), (s1 ^^^ s3).rotateLeft 45⟩ := by
  rw [drawNext_eq, rotl64_eq_rotateLeft _ (by decide), Words.mk.injEq]
  refine ⟨?_, ?_, ?_, ?_⟩
  · ac_rfl
  · ac_rfl
  · rw [BitVec.xor_comm s2]
  · rw [BitVec.xor_comm s3]

/-- Settles O30: the completion step makes one draw, whose output and update are written out word by word. -/
theorem nextCompletes : Obligations.NextCompletes := by
  intro s c s0 s1 s2 s3 hready hdraw hwords
  rw [exec_next hready hdraw, hwords, drawNext_mk, drawOutput_mk]

/-! ### JUMP and LJUMP as commands (R123 to R125) -/

theorem exec_jump {s : State} {c : Nat} (hready : s.Ready) (hdraw : s.CanDraw c) :
    exec (.jump c) s = .next (s.completed c (jumpWith jumpPoly (s.words c)) 0#64 0#64 256) :=
  exec_of_canDraw (i := .jump c) hready hdraw rfl rfl rfl

theorem exec_ljump {s : State} {c : Nat} (hready : s.Ready) (hdraw : s.CanDraw c) :
    exec (.ljump c) s = .next (s.completed c (jumpWith longJumpPoly (s.words c)) 0#64 0#64 256) :=
  exec_of_canDraw (i := .ljump c) hready hdraw rfl rfl rfl

/-- A jump polynomial as one word of 256 bits: word 0 holds the lowest coefficients. -/
def Words.polynomial (j : Words) : BitVec 256 := j.s3 ++ j.s2 ++ j.s1 ++ j.s0

theorem jumpBit_eq_getLsbD (j : Words) {n : Nat} (hn : n < 256) : jumpBit j n = j.polynomial.getLsbD n := by
  obtain ⟨w, b, hb, rfl⟩ : ∃ w b, b < 64 ∧ n = 64 * w + b := ⟨n / 64, n % 64, by omega, by omega⟩
  have hword : (64 * w + b) / 64 = w := by omega
  have hbit : (64 * w + b) % 64 = b := by omega
  have hw : w < 4 := by omega
  rw [jumpBit, hword, hbit, Words.polynomial]
  simp only [BitVec.getLsbD_append]
  interval_cases w
  · simp [Words.get, hb]
  · simp [Words.get, hb]
  · simp [Words.get, hb, show ¬ 128 + b < 64 by omega, show 128 + b - 64 = 64 + b by omega]
  · simp [Words.get, hb, show ¬ 192 + b < 64 by omega, show 192 + b - 64 = 64 + (64 + b) by omega]

/-- The sum of states as a fold over its positions. -/
theorem foldl_eq_sumStates (p : Nat → Bool) (g : Words) (n : Nat) :
    (List.range n).foldl (fun acc k => if p k then acc.xor (wordsAfter k g) else acc) Words.zero = sumStates p g n := by
  induction n with
  | zero => rfl
  | succ n ih =>
    rw [List.range_succ, List.foldl_append, ih, sumStates_succ, List.foldl_cons, List.foldl_nil]
    cases p n <;> simp

theorem jumpWith_eq_foldl (j g : Words) : jumpWith j g = (List.range 256).foldl
    (fun acc n => if j.polynomial.getLsbD n then acc.xor (wordsAfter n g) else acc) Words.zero := by
  rw [jumpWith_eq_sumStates, sumStates_congr g fun _ => jumpBit_eq_getLsbD j, foldl_eq_sumStates]

/-- Settles O32: the completion step is JumpWith, which adds up the states at the set bits of the polynomial; the two constants
evaluate to those of R122. -/
theorem jumpsComplete : Obligations.JumpsComplete := by
  intro s c hready hdraw sum
  have hsum (j : Words) : jumpWith j (s.words c) = sum j.polynomial := jumpWith_eq_foldl j (s.words c)
  rw [exec_jump hready hdraw, exec_ljump hready hdraw, hsum, hsum]
  exact ⟨rfl, rfl⟩

/-! ### Jumps as draws (R126) -/

theorem jumpWith_xor (j g h : Words) : jumpWith j (g.xor h) = (jumpWith j g).xor (jumpWith j h) := by
  simp only [jumpWith_eq_sumStates, sumStates_xor_words]

/-- Settles O33: the polynomials are x^(2^128) and x^(2^192) modulo the polynomial of the update, JumpWith is a sum of states,
and no number of draws takes a state to zero. -/
theorem jumpsEqualTheirDrawCounts : Obligations.JumpsEqualTheirDrawCounts := by
  refine ⟨fun s c hready hdraw => ?_, fun g h => ?_⟩
  · rw [exec_jump hready hdraw, exec_ljump hready hdraw, jumpWith_jumpPoly, jumpWith_longJumpPoly]
    exact ⟨rfl, rfl⟩
  · rw [jumpWith_jumpPoly, jumpWith_longJumpPoly]
    exact ⟨rfl, rfl, fun j => jumpWith_xor j g h, fun hg => ⟨wordsAfter_ne_zero _ hg, wordsAfter_ne_zero _ hg⟩⟩

/-! ### Jumps commute (R127) -/

theorem jumpWith_zero_words (j : Words) : jumpWith j Words.zero = Words.zero := by
  rw [jumpWith_eq_sumStates, sumStates_zero_words]

/-- A jump commutes with every linear map of the states that commutes with drawing. -/
theorem jumpWith_comm_of_linear {f : Words → Words} (hzero : f Words.zero = Words.zero)
    (hxor : ∀ a b, f (a.xor b) = (f a).xor (f b)) (hdraw : Function.Commute f drawNext) (j g : Words) :
    jumpWith j (f g) = f (jumpWith j g) := by
  have hselect (b : Bool) (h : Words) : f (Words.select b h) = Words.select b (f h) := by cases b <;> simp [hzero]
  have hafter (n : Nat) (h : Words) : f (wordsAfter n h) = wordsAfter n (f h) := hdraw.iterate_right n h
  rw [jumpWith_eq_sumStates, jumpWith_eq_sumStates]
  generalize 256 = n
  induction n with
  | zero => exact hzero.symm
  | succ n ih => rw [sumStates_succ, sumStates_succ, ih, hxor, hselect, hafter]

theorem jumpWith_drawNext (j g : Words) : jumpWith j (drawNext g) = drawNext (jumpWith j g) :=
  jumpWith_comm_of_linear drawNext_zero drawNext_xor (Function.Commute.refl drawNext) j g

/-- Settles O34: drawing is linear, and so is a jump, which commutes with drawing. -/
theorem jumpsCommuteWithDraws : Obligations.JumpsCommuteWithDraws := fun j k g =>
  ⟨jumpWith_drawNext j g, jumpWith_comm_of_linear (jumpWith_zero_words k) (jumpWith_xor k) (jumpWith_drawNext k) j g⟩

end Sys2Proof.Machine

/-! # The output stream: RAND, the unit floats and FILL (spec/42_output_stream.md R140 to R149) -/

namespace Sys2Proof.Machine

/-! ### Commands that draw -/

/-- A command that makes one draw and delivers `f` of it in RES[0]. -/
theorem exec_of_completeDraw {i : Instr} {s : State} {f : Word → Word} (hready : s.Ready) (hdraw : s.CanDraw i.ctx)
    (hdst : i.dst? = none) (hop : operandFault s.cfg s.args i = none)
    (hcomplete : completionOf i s.args (accept i s) = some (completeDraw i.ctx f (accept i s))) :
    exec i s = .next (s.completed i.ctx (wordsAfter 1 (s.words i.ctx)) (f (nthDraw (s.words i.ctx) 0)) 0#64 1) :=
  exec_of_canDraw hready hdraw hdst hop hcomplete

/-- A command that passes every check but its operand check raises the fault of that check. -/
theorem exec_of_operandFault {i : Instr} {s : State} {code : FaultCode} (hready : s.Ready)
    (hbad : badContext s.cfg i = false) (hseeded : readsContext i = true → s.seeded i.ctx = true)
    (hop : operandFault s.cfg s.args i = some code) : exec i s = .next (s.faulted code) := by
  obtain ⟨hfault, hbusy⟩ := hready
  have hcheck : checkFault i s = some code := by
    rw [checkFault, hbad, hop]
    cases hreads : readsContext i with
    | false => rfl
    | true => rw [hseeded hreads]; rfl
  have hissue : issueFault (some i) s = some code := by simp [issueFault, hbusy, hcheck]
  have hrej : accepts i s = false := by simp [accepts, hissue]
  have hraise : issue (some i) s = s.faulted code := by simp [issue, hfault, hissue, raiseFault, State.faulted]
  rw [exec_eq, runCommand_rejected _ hrej, hraise]

/-! ### RAND.t (R143, R144) -/

theorem setWidth_setWidth_ushiftRight (x : Word) {n : Nat} (hn : n ≤ 64) :
    ((x >>> (64 - n)).setWidth n).setWidth 64 = x >>> (64 - n) := by
  ext i hi
  by_cases h : i < n
  · simp [h]
  · simp [h, BitVec.getLsbD_of_ge x (64 - n + i) (by omega)]

theorem signExtend_setWidth_ushiftRight (x : Word) {n : Nat} (hpos : 0 < n) (hn : n ≤ 64) :
    ((x >>> (64 - n)).setWidth n).signExtend 64 = x.sshiftRight (64 - n) := by
  have hlast : 64 - n + (n - 1) = 63 := by omega
  have hmsb : ((x >>> (64 - n)).setWidth n).msb = x.msb := by simp [BitVec.msb_eq_getLsbD_last, hpos, hlast]
  ext i hi
  rw [BitVec.getElem_signExtend, BitVec.getElem_sshiftRight, hmsb]
  by_cases h : i < n
  · simp [h, show 64 - n + i < 64 by omega]
  · simp [h, show ¬ 64 - n + i < 64 by omega]

namespace IntTy

theorem bits_le (t : IntTy) : t.bits ≤ 64 := by cases t <;> decide

theorem signed_iff (t : IntTy) : t.signed = true ↔ t ∈ [i8, i16, i32, i64] := by cases t <;> decide

theorem ctx_randInstr (t : IntTy) (c : Nat) : (t.randInstr c).ctx = c := by cases t <;> rfl

theorem dst?_randInstr (t : IntTy) (c : Nat) : (t.randInstr c).dst? = none := by cases t <;> rfl

theorem operandFault_randInstr (p : Params) (a : Args) (t : IntTy) (c : Nat) : operandFault p a (t.randInstr c) = none := by
  cases t <;> rfl

theorem completionOf_randInstr (t : IntTy) (c : Nat) (a : Args) (s : State) :
    completionOf (t.randInstr c) a s = some (completeDraw c (fun x => t.extend (t.topBits x)) s) := by
  cases t <;> rfl

/-- The top N bits extended to a register are a shift of the whole draw, arithmetic for a signed type. -/
theorem extend_topBits (t : IntTy) (x : Word) :
    t.extend (t.topBits x) = if t ∈ [i8, i16, i32, i64] then x.sshiftRight (64 - t.bits) else x >>> (64 - t.bits) := by
  rw [extend, topBits, setWidth_setWidth_ushiftRight x t.bits_le,
    signExtend_setWidth_ushiftRight x t.bits_pos t.bits_le]
  exact if_congr t.signed_iff rfl rfl

end IntTy

theorem exec_randInstr {s : State} (t : IntTy) {c : Nat} (hready : s.Ready) (hdraw : s.CanDraw c) :
    exec (t.randInstr c) s = .next (s.completed c (wordsAfter 1 (s.words c))
      (t.extend (t.topBits (nthDraw (s.words c) 0))) 0#64 1) := by
  have hctx := t.ctx_randInstr c
  have h := exec_of_completeDraw (i := t.randInstr c) (f := fun x => t.extend (t.topBits x)) hready (hctx.symm ▸ hdraw)
    (t.dst?_randInstr c) (IntTy.operandFault_randInstr _ _ t c) (hctx.symm ▸ t.completionOf_randInstr c _ _)
  rwa [hctx] at h

/-- Settles O35: one draw shifted down to its top N bits, and two draws for the 128-bit forms. -/
theorem randIntegersComplete : Obligations.RandIntegersComplete := by
  intro s t c hready hdraw x
  refine ⟨?_, fun i hi => ?_⟩
  · rw [exec_randInstr t hready hdraw, t.extend_topBits]
  · rcases hi with rfl | rfl
    · exact exec_of_canDraw (i := .randU128 c) hready hdraw rfl rfl rfl
    · exact exec_of_canDraw (i := .randI128 c) hready hdraw rfl rfl rfl

/-! ### RAND.BOOL (R145) -/

theorem toInt_pos_iff (x : Word) : 0 < x.toInt ↔ 1 ≤ x.toNat ∧ x.toNat ≤ 2 ^ 63 - 1 := by
  rw [BitVec.toInt_eq_toNat_cond]
  split <;> omega

theorem boolOfDraw_eq (x : Word) : boolOfDraw x = if 1 ≤ x.toNat ∧ x.toNat ≤ 2 ^ 63 - 1 then 1#64 else 0#64 :=
  if_congr (toInt_pos_iff x) rfl rfl

/-- Settles O36: the draws that are positive as signed numbers are those from 1 to 2^63 - 1. -/
theorem randBoolCompletes : Obligations.RandBoolCompletes := by
  intro s c hready hdraw x
  rw [exec_of_completeDraw (i := .randBool c) (f := boolOfDraw) hready hdraw rfl rfl rfl, boolOfDraw_eq]
  rfl

/-! ### The unit floats (R146 to R149) -/

/-- The leading bit of m moved to the place of the hidden bit. -/
theorem log2_shift_bounds {m n : Nat} (hm : m ≠ 0) (hlt : m < 2 ^ n) :
    Nat.log2 m < n ∧ 2 ^ n ≤ m * 2 ^ (n - Nat.log2 m) ∧ m * 2 ^ (n - Nat.log2 m) < 2 * 2 ^ n := by
  have hlog : Nat.log2 m < n := (Nat.log2_lt hm).2 hlt
  have hpow : 2 ^ n = 2 ^ Nat.log2 m * 2 ^ (n - Nat.log2 m) := by rw [← Nat.pow_add, Nat.add_sub_cancel' hlog.le]
  refine ⟨hlog, ?_, ?_⟩
  · rw [hpow]
    exact Nat.mul_le_mul_right _ (Nat.log2_self_le hm)
  · rw [hpow, ← Nat.mul_assoc, ← Nat.pow_succ']
    exact Nat.mul_lt_mul_of_pos_right Nat.lt_log2_self (Nat.two_pow_pos _)

namespace FloatFmt

variable (f : FloatFmt)

theorem signedUnits_of_lt {b : Nat} (h : b < f.signWeight) : f.signedUnits b = f.units b := by
  have hpos : f.isNeg b = false := by simp [isNeg, Nat.div_eq_of_lt h]
  rw [signedUnits, hpos, magnitude, Nat.mod_eq_of_lt h]
  rfl

/-- The value of a normal pattern, with exponent field `e` and fraction `r`. -/
theorem units_normal {e r : Nat} (he : 0 < e) (hr : r < 2 ^ f.fracBits) :
    f.units (e * 2 ^ f.fracBits + r) = (2 ^ f.fracBits + r) * 2 ^ (e - 1) := by
  have hexp : (e * 2 ^ f.fracBits + r) / 2 ^ f.fracBits = e := by
    rw [Nat.mul_comm, Nat.mul_add_div (by omega), Nat.div_eq_of_lt hr, Nat.add_zero]
  have hfrac : (e * 2 ^ f.fracBits + r) % 2 ^ f.fracBits = r := by
    rw [Nat.mul_comm, Nat.mul_add_mod, Nat.mod_eq_of_lt hr]
  rw [units, hexp, hfrac, if_neg he.ne']

theorem units_zero : f.units 0 = 0 := by simp [units]

/-- A unit float is below 1.0, whose exponent field is the bias. -/
theorem unitBits_lt {m : Nat} (hbias : f.fracBits < f.bias) (hm : m < 2 ^ f.fracBits) :
    f.unitBits m < f.bias * 2 ^ f.fracBits := by
  rw [unitBits]
  split
  · exact Nat.mul_pos (by omega) (by omega)
  · next h0 =>
    obtain ⟨hlog, -, -⟩ := log2_shift_bounds h0 hm
    calc (f.bias - f.fracBits + Nat.log2 m) * 2 ^ f.fracBits + m * 2 ^ (f.fracBits - Nat.log2 m) % 2 ^ f.fracBits
        < (f.bias - f.fracBits + Nat.log2 m) * 2 ^ f.fracBits + 2 ^ f.fracBits :=
          Nat.add_lt_add_left (Nat.mod_lt _ (Nat.two_pow_pos _)) _
      _ = (f.bias - f.fracBits + Nat.log2 m + 1) * 2 ^ f.fracBits := (Nat.succ_mul _ _).symm
      _ ≤ f.bias * 2 ^ f.fracBits := Nat.mul_le_mul_right _ (by omega)

/-- The unit float of m is m * 2^-fracBits: 1.0 is 2^(bias - 1 + fracBits) units. -/
theorem units_unitBits {m : Nat} (hbias : f.fracBits < f.bias) (hm : m < 2 ^ f.fracBits) :
    f.units (f.unitBits m) = m * 2 ^ (f.bias - 1) := by
  rw [unitBits]
  split
  · next h0 => rw [h0, units_zero, Nat.zero_mul]
  · next h0 =>
    obtain ⟨hlog, hle, hlt⟩ := log2_shift_bounds h0 hm
    have hfrac : m * 2 ^ (f.fracBits - Nat.log2 m) % 2 ^ f.fracBits =
        m * 2 ^ (f.fracBits - Nat.log2 m) - 2 ^ f.fracBits := by
      rw [Nat.mod_eq_sub_mod hle, Nat.mod_eq_of_lt (by omega)]
    calc f.units ((f.bias - f.fracBits + Nat.log2 m) * 2 ^ f.fracBits + m * 2 ^ (f.fracBits - Nat.log2 m) % 2 ^ f.fracBits)
        = (2 ^ f.fracBits + m * 2 ^ (f.fracBits - Nat.log2 m) % 2 ^ f.fracBits) *
            2 ^ (f.bias - f.fracBits + Nat.log2 m - 1) :=
          f.units_normal (by omega) (Nat.mod_lt _ (Nat.two_pow_pos _))
      _ = m * 2 ^ (f.fracBits - Nat.log2 m) * 2 ^ (f.bias - f.fracBits + Nat.log2 m - 1) := by
          rw [hfrac, Nat.add_sub_cancel' hle]
      _ = m * 2 ^ (f.bias - 1) := by
          rw [Nat.mul_assoc, ← Nat.pow_add]
          congr 2
          omega

theorem unitMantissa_eq (x : Word) : f.unitMantissa x = x.toNat / 2 ^ (64 - f.fracBits) := by
  rw [unitMantissa, BitVec.toNat_ushiftRight, Nat.shiftRight_eq_div_pow]

theorem unitMantissa_lt (hfrac : f.fracBits ≤ 64) (x : Word) : f.unitMantissa x < 2 ^ f.fracBits := by
  rw [unitMantissa_eq, Nat.div_lt_iff_lt_mul (Nat.two_pow_pos _), ← Nat.pow_add, Nat.add_sub_cancel' hfrac]
  exact x.isLt

theorem bias_mul_le_signWeight : f.bias * 2 ^ f.fracBits ≤ f.signWeight := by
  rw [signWeight, Nat.pow_add, Nat.mul_comm]
  have hle : f.bias ≤ 2 ^ f.expBits := (Nat.sub_le _ _).trans (Nat.pow_le_pow_right (by decide) (Nat.sub_le _ _))
  exact Nat.mul_le_mul_left _ hle

/-- The unit float of a draw: below 1.0, and its exact value. -/
theorem unitOfDraw_spec (hbias : f.fracBits < f.bias) (hfrac : f.fracBits ≤ 64) (x : Word) :
    f.unitOfDraw x < f.bias * 2 ^ f.fracBits ∧
      f.signedUnits (f.unitOfDraw x) = ((x.toNat / 2 ^ (64 - f.fracBits) * 2 ^ (f.bias - 1) : Nat) : Int) := by
  have hm := f.unitMantissa_lt hfrac x
  have hlt : f.unitOfDraw x < f.bias * 2 ^ f.fracBits := f.unitBits_lt hbias hm
  refine ⟨hlt, ?_⟩
  rw [f.signedUnits_of_lt (hlt.trans_le f.bias_mul_le_signWeight), unitOfDraw, f.units_unitBits hbias hm, unitMantissa_eq]

end FloatFmt

theorem binary32_bias_pred : binary32.bias - 1 = 126 := rfl

theorem binary64_bias_pred : binary64.bias - 1 = 1022 := rfl

/-- Settles O38: the general fact for the two formats; 1.0 has the bias as its exponent field. -/
theorem unitFloatsAreExactAndBelowOne : Obligations.UnitFloatsAreExactAndBelowOne := by
  intro x
  rw [← binary32_bias_pred, ← binary64_bias_pred]
  exact ⟨binary32.unitOfDraw_spec (by decide) (by decide) x, binary64.unitOfDraw_spec (by decide) (by decide) x⟩

theorem unitResult_eq (f : FloatFmt) (x : Word) :
    unitResult f x = BitVec.ofNat 64 (f.unitBits (x.toNat / 2 ^ (64 - f.fracBits))) := by
  rw [unitResult, FloatFmt.unitOfDraw, FloatFmt.unitMantissa_eq]

/-- Settles O37: the mantissa of a draw is its quotient by 2^41 or 2^12. -/
theorem randFloatsComplete : Obligations.RandFloatsComplete := by
  intro s c hready hdraw x
  rw [exec_of_completeDraw (i := .randF32 c) (f := unitResult binary32) hready hdraw rfl rfl rfl,
    exec_of_completeDraw (i := .randF64 c) (f := unitResult binary64) hready hdraw rfl rfl rfl, unitResult_eq, unitResult_eq]
  exact ⟨rfl, rfl⟩

/-! ### FILL (R140, R141) -/

theorem read_filledOutbuf_above (s : State) (c : Nat) {len k : Nat} (h : len ≤ k) :
    (filledOutbuf s c len).read k = s.outbuf.read k :=
  fillLoop_read_above _ _ _ _ h

theorem exec_fill_tooLong {s : State} {c : Nat} (hready : s.Ready) (hdraw : s.CanDraw c)
    (hlen : s.cfg.outbufBytes < s.args.a0.toNat) : exec (.fill c) s = .next (s.faulted .fillTooLong) :=
  exec_of_operandFault hready (badContext_fill hdraw.1) (fun _ => hdraw.2) (if_pos hlen)

/-- Settles O39: OUTBUF afterwards is `filledOutbuf`, whose bytes below L are those of the draws and whose bytes above are as
before. -/
theorem fillCompletes : Obligations.FillCompletes := fun s c hready hdraw =>
  ⟨fun hlen => ⟨filledOutbuf s c s.args.a0.toNat, exec_fill hready hdraw hlen,
    fun _ _ hj hk => read_filledOutbuf s c hj hk, fun _ hk => read_filledOutbuf_above s c hk⟩,
    exec_fill_tooLong hready hdraw⟩

end Sys2Proof.Machine

/-! # Lemire's method: the draws it accepts (spec/43_range_int.md R165, R168, R169) -/

namespace Sys2Proof.Machine

/-! ### The product and the threshold in numbers (R165) -/

theorem toNat_mulfull (a b : Word) : (mulfull a b).toNat = a.toNat * b.toNat := by
  have hlt : a.toNat * b.toNat < 2 ^ 128 := (Nat.mul_lt_mul'' a.isLt b.isLt).trans_eq (Nat.pow_add 2 64 64).symm
  rw [mulfull, BitVec.toNat_mul, BitVec.toNat_setWidth_of_le (by decide), BitVec.toNat_setWidth_of_le (by decide),
    Nat.mod_eq_of_lt hlt]

theorem toNat_lo64_mulfull (a b : Word) : (lo64 (mulfull a b)).toNat = a.toNat * b.toNat % 2 ^ 64 := by
  rw [lo64, BitVec.extractLsb'_toNat, toNat_mulfull, Nat.shiftRight_zero]

theorem toNat_hi64_mulfull (a b : Word) : (hi64 (mulfull a b)).toNat = a.toNat * b.toNat / 2 ^ 64 := by
  have hlt : a.toNat * b.toNat / 2 ^ 64 < 2 ^ 64 :=
    Nat.div_lt_of_lt_mul (Nat.mul_lt_mul'' a.isLt b.isLt)
  rw [hi64, BitVec.extractLsb'_toNat, toNat_mulfull, Nat.shiftRight_eq_div_pow, Nat.mod_eq_of_lt hlt]

theorem hi64_mulfull_lt (x : Word) {range : Word} (hrange : 0#64 < range) : hi64 (mulfull x range) < range := by
  rw [BitVec.lt_def, toNat_hi64_mulfull]
  exact Nat.div_lt_of_lt_mul (Nat.mul_lt_mul_of_pos_right x.isLt hrange)

theorem toNat_threshold {range : Word} (hrange : 0#64 < range) :
    (threshold range).toNat = (2 ^ 64 - range.toNat) % range.toNat := by
  have hlt : 2 ^ 64 - range.toNat < 2 ^ 64 := Nat.sub_lt (by decide) hrange
  rw [threshold, BitVec.toNat_umod, BitVec.toNat_neg, Nat.mod_eq_of_lt hlt]

theorem toNat_threshold_eq_mod {range : Word} (hrange : 0#64 < range) :
    (threshold range).toNat = 2 ^ 64 % range.toNat := by
  rw [toNat_threshold hrange, ← Nat.mod_eq_sub_mod range.isLt.le]

theorem threshold_lt {range : Word} (hrange : 0#64 < range) : threshold range < range := by
  rw [BitVec.lt_def, toNat_threshold hrange]
  exact Nat.mod_lt _ hrange

/-- The loop draws again on `x` (R165). -/
abbrev Rejected (range x : Word) : Prop := lo64 (mulfull x range) < threshold range

theorem rejected_iff {range : Word} (x : Word) (hrange : 0#64 < range) :
    Rejected range x ↔ x.toNat * range.toNat % 2 ^ 64 < (2 ^ 64 - range.toNat) % range.toNat := by
  rw [Rejected, BitVec.lt_def, toNat_lo64_mulfull, toNat_threshold hrange]

/-- The low half of (2^64 - 1) * range is 2^64 - range (R168). -/
theorem not_rejected_greatest {range : Word} (hrange : 0#64 < range) : ¬ Rejected range 0xFFFFFFFFFFFFFFFF#64 := by
  have hpos : 0 < range.toNat := hrange
  have hlow : 0xFFFFFFFFFFFFFFFF * range.toNat = 2 ^ 64 - range.toNat + 2 ^ 64 * (range.toNat - 1) := by omega
  have hlt : 2 ^ 64 - range.toNat < 2 ^ 64 := Nat.sub_lt (by decide) hpos
  rw [rejected_iff _ hrange, show (0xFFFFFFFFFFFFFFFF#64).toNat = 0xFFFFFFFFFFFFFFFF from rfl, hlow,
    Nat.add_mul_mod_self_left, Nat.mod_eq_of_lt hlt]
  exact Nat.not_lt.2 (Nat.mod_le _ _)

/-! ### The loop over a stream of draws -/

/-- Draw `k` of the stream from `g` is the first one the loop accepts. -/
def FirstAccepted (range : Word) (g : Words) (k : Nat) : Prop :=
  (∀ n < k, Rejected range (nthDraw g n)) ∧ ¬ Rejected range (nthDraw g k)

theorem FirstAccepted.le {range : Word} {g : Words} {k n : Nat} (h : FirstAccepted range g k)
    (hn : ¬ Rejected range (nthDraw g n)) : k ≤ n := by
  obtain ⟨hbefore, -⟩ := h
  exact Nat.le_of_not_lt fun hlt => hn (hbefore n hlt)

theorem exists_firstAccepted {range : Word} {g : Words} (h : ¬ ∀ n, Rejected range (nthDraw g n)) :
    ∃ k, FirstAccepted range g k := by
  have hex := not_forall.1 h
  exact ⟨Nat.find hex, fun n hn => not_not.1 (Nat.find_min hex hn), Nat.find_spec hex⟩

section
variable {range : Word}

theorem lemireLoop_of_rejected {g : Words} (fuel d : Nat) (h : Rejected range (drawOutput g)) :
    lemireLoop draw range (threshold range) (fuel + 1) (drawOutput g) (drawNext g) d =
      lemireLoop draw range (threshold range) fuel (drawOutput (drawNext g)) (drawNext (drawNext g)) (d + 1) :=
  if_pos h

theorem lemireLoop_of_not_rejected {g : Words} (fuel d : Nat) (h : ¬ Rejected range (drawOutput g)) :
    lemireLoop draw range (threshold range) (fuel + 1) (drawOutput g) (drawNext g) d =
      some (hi64 (mulfull (drawOutput g) range), drawNext g, d) :=
  if_neg h

theorem lemireLoop_eq_none {fuel : Nat} {g : Words} (d : Nat) (h : ∀ n < fuel, Rejected range (nthDraw g n)) :
    lemireLoop draw range (threshold range) fuel (drawOutput g) (drawNext g) d = none := by
  induction fuel generalizing g d with
  | zero => rfl
  | succ fuel ih =>
    have hfirst : Rejected range (drawOutput g) := h 0 fuel.succ_pos
    rw [lemireLoop_of_rejected fuel d hfirst]
    exact ih (d + 1) fun n hn => h (n + 1) (Nat.succ_lt_succ hn)

theorem lemireLoop_eq_some {fuel k : Nat} {g : Words} (d : Nat) (hk : k < fuel) (h : FirstAccepted range g k) :
    lemireLoop draw range (threshold range) fuel (drawOutput g) (drawNext g) d =
      some (hi64 (mulfull (nthDraw g k) range), wordsAfter (k + 1) g, d + k) := by
  obtain ⟨fuel, rfl⟩ := Nat.exists_eq_add_one.2 (Nat.zero_lt_of_lt hk)
  obtain ⟨hbefore, hlast⟩ := h
  induction k generalizing fuel g d with
  | zero => exact lemireLoop_of_not_rejected fuel d hlast
  | succ k ih =>
    obtain ⟨fuel, rfl⟩ := Nat.exists_eq_add_one.2 (Nat.zero_lt_of_lt (Nat.lt_of_succ_lt_succ hk))
    have hfirst : Rejected range (drawOutput g) := hbefore 0 k.succ_pos
    rw [lemireLoop_of_rejected _ d hfirst,
      ih (g := drawNext g) (d + 1) fuel (Nat.lt_of_succ_lt_succ hk) (fun n hn => hbefore (n + 1) (Nat.succ_lt_succ hn)) hlast,
      Nat.add_right_comm]
    rfl

/-- The fast path of R165 takes a draw that the loop would take too, since the threshold is below the range. -/
theorem lemire_eq_lemireLoop {fuel : Nat} (g : Words) (hrange : 0#64 < range) (hfuel : 0 < fuel) :
    lemire draw fuel range g = lemireLoop draw range (threshold range) fuel (drawOutput g) (drawNext g) 1 := by
  obtain ⟨fuel, rfl⟩ := Nat.exists_eq_add_one.2 hfuel
  by_cases hfast : lo64 (mulfull (drawOutput g) range) < range
  · exact if_pos hfast
  · have haccepted : ¬ Rejected range (drawOutput g) := fun h => hfast (BitVec.lt_trans h (threshold_lt hrange))
    rw [lemireLoop_of_not_rejected fuel 1 haccepted]
    exact if_neg hfast

end

/-! ### The fuel is the number of states (R168, log entry 7) -/

def Words.equivProd : Words ≃ Word × Word × Word × Word where
  toFun g := (g.s0, g.s1, g.s2, g.s3)
  invFun p := ⟨p.1, p.2.1, p.2.2.1, p.2.2.2⟩
  left_inv _ := rfl
  right_inv _ := rfl

theorem card_word : Fintype.card Word = 2 ^ 64 :=
  (Fintype.card_congr BitVec.equivFin.toEquiv).trans (Fintype.card_fin _)

theorem loopFuel_eq_card : loopFuel = Fintype.card (Word × Word × Word × Word) := by
  rw [Fintype.card_prod, Fintype.card_prod, Fintype.card_prod, card_word]
  rfl

/-- A stream of draws comes round within as many draws as there are states, for Draw's state update is one-to-one. -/
theorem exists_period (g : Words) : ∃ p, 0 < p ∧ p ≤ loopFuel ∧ ∀ n, wordsAfter (n % p) g = wordsAfter n g := by
  let _ : Fintype Words := Fintype.ofEquiv _ Words.equivProd.symm
  refine ⟨Function.minimalPeriod drawNext g,
    Function.minimalPeriod_pos_of_mem_periodicPts (drawNext_injective.mem_periodicPts g), ?_,
    fun n => Function.iterate_mod_minimalPeriod_eq⟩
  rw [loopFuel_eq_card, ← Fintype.card_congr Words.equivProd]
  exact Function.minimalPeriod_le_card

theorem FirstAccepted.lt_loopFuel {range : Word} {g : Words} {k : Nat} (h : FirstAccepted range g k) : k < loopFuel := by
  obtain ⟨p, hpos, hle, hperiod⟩ := exists_period g
  have hround : ¬ Rejected range (nthDraw g (k % p)) := by
    rw [nthDraw, hperiod k]
    exact h.2
  exact ((h.le hround).trans_lt (Nat.mod_lt k hpos)).trans_le hle

theorem loopFuel_pos : 0 < loopFuel := Nat.two_pow_pos 256

theorem lemire_of_firstAccepted {range : Word} {g : Words} {k : Nat} (hrange : 0#64 < range)
    (h : FirstAccepted range g k) :
    lemire draw loopFuel range g = some (hi64 (mulfull (nthDraw g k) range), wordsAfter (k + 1) g, k + 1) := by
  rw [lemire_eq_lemireLoop g hrange loopFuel_pos, lemireLoop_eq_some 1 h.lt_loopFuel h, Nat.add_comm 1]

theorem lemire_of_all_rejected {range : Word} {g : Words} (hrange : 0#64 < range)
    (h : ∀ n, Rejected range (nthDraw g n)) : lemire draw loopFuel range g = none := by
  rw [lemire_eq_lemireLoop g hrange loopFuel_pos, lemireLoop_eq_none 1 fun n _ => h n]

/-- Settles O46: a first accepted draw comes before the fuel runs out, since the states come round by then. -/
theorem fuelRunsOutOnlyWhereTheLoopNeverEnds : Obligations.FuelRunsOutOnlyWhereTheLoopNeverEnds := by
  intro range g hrange
  refine ⟨fun hnone => ?_, lemire_of_all_rejected hrange⟩
  by_contra hsome
  obtain ⟨k, hk⟩ := exists_firstAccepted hsome
  rw [lemire_of_firstAccepted hrange hk] at hnone
  cases hnone

/-- Settles O47: the first accepted draw is draw n or one before it. -/
theorem theGreatestDrawIsAlwaysAccepted : Obligations.TheGreatestDrawIsAlwaysAccepted := by
  intro range g n hrange hn
  have haccepted : ¬ Rejected range (nthDraw g n) := hn ▸ not_rejected_greatest hrange
  obtain ⟨k, hk⟩ := exists_firstAccepted fun h => haccepted (h n)
  exact ⟨haccepted, _, _, _, lemire_of_firstAccepted hrange hk, Nat.succ_le_succ (hk.le haccepted),
    hi64_mulfull_lt _ hrange⟩

/-! ### Counting the accepted draws (R169) -/

theorem card_word_interval (a : Nat) {b : Nat} (hb : b ≤ 2 ^ 64) :
    (Finset.univ.filter fun x : Word => a ≤ x.toNat ∧ x.toNat < b).card = b - a := by
  have htoNat : ∀ n ∈ Finset.Ico a b, (BitVec.ofNat 64 n).toNat = n := fun n hn =>
    Nat.mod_eq_of_lt ((Finset.mem_Ico.1 hn).2.trans_le hb)
  rw [← Nat.card_Ico]
  refine Finset.card_nbij' BitVec.toNat (BitVec.ofNat 64) (fun x hx => ?_) (fun n hn => ?_) (fun x _ => ?_)
    (fun n hn => ?_)
  · simpa using hx
  · rw [Finset.mem_coe, Finset.mem_filter, htoNat n hn]
    exact ⟨Finset.mem_univ _, Finset.mem_Ico.1 hn⟩
  · exact BitVec.ofNat_toNat _ x
  · exact htoNat n hn

theorem card_word_lt (range : Word) : (Finset.univ.filter fun x : Word => x < range).card = range.toNat := by
  simpa [BitVec.lt_def] using card_word_interval 0 range.isLt.le

/-- The multiples of `r` in an interval of length `q * r` from `l` are `q` consecutive ones. -/
theorem multiple_mem_interval_iff {r : Nat} (hr : 0 < r) (l q x : Nat) :
    (l ≤ x * r ∧ x * r < l + q * r) ↔ ((l + r - 1) / r ≤ x ∧ x < (l + r - 1) / r + q) := by
  have hlow : (l + r - 1) / r ≤ x ↔ l ≤ x * r := by
    rw [← Nat.lt_succ_iff, Nat.div_lt_iff_lt_mul hr, Nat.succ_mul]
    omega
  have hhigh : x < (l + r - 1) / r + q ↔ x * r < l + q * r := by
    rw [← Nat.add_mul_div_right _ _ hr, ← Nat.succ_le_iff, Nat.le_div_iff_mul_le hr, Nat.succ_mul]
    omega
  rw [hlow, hhigh]

/-- Which products are accepted with high half `h`: those from h * 2^64 + t to the end of that block of 2^64, an interval of
length 2^64 - t = (2^64 / range) * range. -/
theorem accepted_with_hi_iff {range : Word} (x h : Word) (hrange : 0#64 < range) :
    (¬ Rejected range x ∧ hi64 (mulfull x range) = h) ↔
      (h.toNat * 2 ^ 64 + 2 ^ 64 % range.toNat ≤ x.toNat * range.toNat ∧
        x.toNat * range.toNat < h.toNat * 2 ^ 64 + 2 ^ 64 % range.toNat + 2 ^ 64 / range.toNat * range.toNat) := by
  rw [Nat.add_assoc, Nat.mod_add_div', Rejected, BitVec.lt_def, toNat_lo64_mulfull, toNat_threshold_eq_mod hrange,
    ← BitVec.toNat_inj, toNat_hi64_mulfull]
  have hlt : 2 ^ 64 % range.toNat ≤ 2 ^ 64 := Nat.mod_le _ _
  generalize 2 ^ 64 % range.toNat = t at hlt
  generalize x.toNat * range.toNat = p
  omega

theorem card_accepted_with_hi {range h : Word} (hh : h < range) :
    (Finset.univ.filter fun x : Word => ¬ Rejected range x ∧ hi64 (mulfull x range) = h).card =
      2 ^ 64 / range.toNat := by
  have hpos : 0 < range.toNat := Nat.zero_lt_of_lt hh
  have hend : (h.toNat * 2 ^ 64 + 2 ^ 64 % range.toNat + range.toNat - 1) / range.toNat + 2 ^ 64 / range.toNat ≤ 2 ^ 64 := by
    have hsplit := Nat.mod_add_div' (2 ^ 64) range.toNat
    have hlt : h.toNat < range.toNat := hh
    rw [← Nat.add_mul_div_right _ _ hpos, ← Nat.lt_succ_iff, Nat.div_lt_iff_lt_mul hpos]
    omega
  simp only [accepted_with_hi_iff _ h hpos, multiple_mem_interval_iff hpos]
  rw [card_word_interval _ hend, Nat.add_sub_cancel_left]

theorem card_accepted {range : Word} (hrange : 0#64 < range) :
    (Finset.univ.filter fun x : Word => ¬ Rejected range x).card = range.toNat * (2 ^ 64 / range.toNat) := by
  have hmaps : Set.MapsTo (fun x => hi64 (mulfull x range)) (Finset.univ.filter fun x : Word => ¬ Rejected range x)
      (Finset.univ.filter fun h : Word => h < range) := fun x _ => by simpa using hi64_mulfull_lt x hrange
  rw [Finset.card_eq_sum_card_fiberwise hmaps, Finset.sum_const_nat (m := 2 ^ 64 / range.toNat) fun h hh => ?_,
    card_word_lt]
  rw [Finset.filter_filter, card_accepted_with_hi (Finset.mem_filter.1 hh).2]

/-- Settles O48: each result has 2^64 / range accepted draws, and there are `range` results. -/
theorem lemireIsExactlyUniform : Obligations.LemireIsExactlyUniform := by
  intro range h hh
  have hrange : 0#64 < range := Nat.zero_lt_of_lt hh
  have htotal : range.toNat * (2 ^ 64 / range.toNat) = 2 ^ 64 - (threshold range).toNat := by
    rw [toNat_threshold_eq_mod hrange, Nat.mul_div_self_eq_mod_sub_self]
  have hrejected : (Finset.univ.filter fun x : Word => Rejected range x).card = (threshold range).toNat := by
    have hall := Finset.card_filter_add_card_filter_not (s := Finset.univ) (Rejected range)
    rw [Finset.card_univ, card_word, card_accepted hrange, htotal] at hall
    exact Nat.add_right_cancel (hall.trans (Nat.add_sub_cancel' (threshold range).isLt.le).symm)
  refine ⟨?_, (card_accepted hrange).trans htotal, hrejected⟩
  rw [card_accepted_with_hi hh, Nat.mul_comm, htotal]

end Sys2Proof.Machine

/-! # RANGE.t (spec/43_range_int.md R160 to R168) -/

namespace Sys2Proof.Machine

/-! ### The values of a type and their register patterns (R11, R80) -/

namespace IntTy

variable (t : IntTy)

theorem minVal_unsigned {t : IntTy} (h : t.signed = false) : t.minVal = 0 := by simp [minVal, h]

theorem minVal_signed {t : IntTy} (h : t.signed = true) : t.minVal = -(2 ^ (t.bits - 1)) := if_pos h

theorem maxVal_unsigned {t : IntTy} (h : t.signed = false) : t.maxVal = 2 ^ t.bits - 1 := by simp [maxVal, h]

theorem maxVal_signed {t : IntTy} (h : t.signed = true) : t.maxVal = 2 ^ (t.bits - 1) - 1 := if_pos h

/-- The value of type t that an N-bit pattern has. -/
def value (v : BitVec t.bits) : Int := if t.signed then v.toInt else (v.toNat : Int)

theorem ofReg_eq_value (w : Word) : t.ofReg w = t.value (w.setWidth t.bits) := rfl

theorem value_unsigned {t : IntTy} (h : t.signed = false) (v : BitVec t.bits) : t.value v = v.toNat := by
  simp [value, h]

theorem value_signed {t : IntTy} (h : t.signed = true) (v : BitVec t.bits) : t.value v = v.toInt := if_pos h

theorem value_bounds (v : BitVec t.bits) : t.minVal ≤ t.value v ∧ t.value v ≤ t.maxVal := by
  cases hs : t.signed with
  | false =>
    rw [minVal_unsigned hs, maxVal_unsigned hs, value_unsigned hs]
    exact ⟨Int.natCast_nonneg _, Int.le_sub_one_of_lt (mod_cast v.isLt)⟩
  | true =>
    rw [minVal_signed hs, maxVal_signed hs, value_signed hs]
    exact ⟨BitVec.le_toInt v, Int.le_sub_one_of_lt BitVec.toInt_lt⟩

theorem ofReg_bounds (w : Word) : t.minVal ≤ t.ofReg w ∧ t.ofReg w ≤ t.maxVal := t.value_bounds _

theorem maxVal_sub_minVal : t.maxVal - t.minVal = 2 ^ t.bits - 1 := by cases t <;> rfl

theorem value_ofInt {z : Int} (hmin : t.minVal ≤ z) (hmax : z ≤ t.maxVal) : t.value (BitVec.ofInt t.bits z) = z := by
  cases hs : t.signed with
  | false =>
    rw [minVal_unsigned hs] at hmin
    rw [maxVal_unsigned hs] at hmax
    rw [value_unsigned hs, BitVec.toNat_ofInt, Int.toNat_of_nonneg (Int.emod_nonneg _ (by simp))]
    exact Int.emod_eq_of_lt hmin (by push_cast; omega)
  | true =>
    rw [minVal_signed hs] at hmin
    rw [maxVal_signed hs] at hmax
    rw [value_signed hs]
    exact BitVec.toInt_ofInt_eq_self t.bits_pos hmin (Int.lt_of_le_sub_one hmax)

/-- A register value is the value of the pattern, modulo 2^64. -/
theorem extend_eq_ofInt (v : BitVec t.bits) : t.extend v = BitVec.ofInt 64 (t.value v) := by
  cases hs : t.signed with
  | false =>
    rw [value_unsigned hs, BitVec.ofInt_natCast, BitVec.ofNat_toNat]
    exact if_neg (by simp [hs])
  | true =>
    rw [value_signed hs]
    exact if_pos hs

theorem ofReg_extend (v : BitVec t.bits) : t.ofReg (t.extend v) = t.value v := by
  have hlow : (t.extend v).setWidth t.bits = v := by
    ext i hi
    have hi64 : i < 64 := hi.trans_le t.bits_le
    cases hs : t.signed with
    | false => simp [extend, hs, hi, hi64]
    | true => simp [extend, hs, hi, hi64, BitVec.getElem_signExtend]
  rw [ofReg_eq_value, hlow]

/-- RANGE.t delivers its value modulo 2^64, which is the extension of its pattern. -/
theorem extend_ofInt {z : Int} (hmin : t.minVal ≤ z) (hmax : z ≤ t.maxVal) :
    t.extend (BitVec.ofInt t.bits z) = BitVec.ofInt 64 z := by
  rw [extend_eq_ofInt, value_ofInt t hmin hmax]

theorem ofReg_ofInt {z : Int} (hmin : t.minVal ≤ z) (hmax : z ≤ t.maxVal) : t.ofReg (BitVec.ofInt 64 z) = z := by
  rw [← t.extend_ofInt hmin hmax, ofReg_extend, value_ofInt t hmin hmax]

end IntTy

/-! ### The normalised bounds (R161) -/

/-- The least value a RANGE.t allows. -/
def lowerBound (t : IntTy) (lx : Bool) (a : Args) : Int := t.ofReg a.a0 + (if lx then 1 else 0)

/-- The greatest value a RANGE.t allows. -/
def upperBound (t : IntTy) (ux : Bool) (a : Args) : Int := t.ofReg a.a1 - (if ux then 1 else 0)

theorem minVal_le_lowerBound (t : IntTy) (lx : Bool) (a : Args) : t.minVal ≤ lowerBound t lx a := by
  have hmin := (t.ofReg_bounds a.a0).1
  unfold lowerBound
  split <;> omega

theorem upperBound_le_maxVal (t : IntTy) (ux : Bool) (a : Args) : upperBound t ux a ≤ t.maxVal := by
  have hmax := (t.ofReg_bounds a.a1).2
  unfold upperBound
  split <;> omega

/-- The two early answers EMPTY of R161 are cases of a lower bound above the upper one. -/
theorem rangeBounds_eq (t : IntTy) (lx ux : Bool) (a : Args) : rangeBounds t lx ux a =
    if upperBound t ux a < lowerBound t lx a then none else some (lowerBound t lx a, upperBound t ux a) := by
  unfold rangeBounds normalise
  by_cases hlx : lx = true ∧ t.ofReg a.a0 = t.maxVal
  · have hempty : upperBound t ux a < lowerBound t lx a := by
      have hmax := upperBound_le_maxVal t ux a
      simp only [lowerBound, hlx, if_true]
      omega
    rw [if_pos hlx, if_pos hempty]
  by_cases hux : ux = true ∧ t.ofReg a.a1 = t.minVal
  · have hempty : upperBound t ux a < lowerBound t lx a := by
      have hmin := minVal_le_lowerBound t lx a
      simp only [upperBound, hux, if_true]
      omega
    rw [if_neg hlx, if_pos hux, if_pos hempty]
  have hlower : (if lx then t.ofReg a.a0 + 1 else t.ofReg a.a0) = lowerBound t lx a := by cases lx <;> simp [lowerBound]
  have hupper : (if ux then t.ofReg a.a1 - 1 else t.ofReg a.a1) = upperBound t ux a := by cases ux <;> simp [upperBound]
  rw [if_neg hlx, if_neg hux, hlower, hupper]

theorem rangeBounds_eq_none_iff (t : IntTy) (lx ux : Bool) (a : Args) :
    rangeBounds t lx ux a = none ↔ upperBound t ux a < lowerBound t lx a := by
  rw [rangeBounds_eq]
  split <;> simp [*]

theorem rangeBounds_of_le {t : IntTy} {lx ux : Bool} {a : Args} (h : lowerBound t lx a ≤ upperBound t ux a) :
    rangeBounds t lx ux a = some (lowerBound t lx a, upperBound t ux a) := by
  rw [rangeBounds_eq, if_neg (Int.not_lt.2 h)]

/-- The full range of the type, for which RANGE.t takes the raw path (R163). -/
def FullRange (t : IntTy) (lx ux : Bool) (a : Args) : Prop :=
  lowerBound t lx a = t.minVal ∧ upperBound t ux a = t.maxVal

/-- The width of a range (R164). -/
def rangeWidth (t : IntTy) (lx ux : Bool) (a : Args) : Word := BitVec.ofInt 64 (upperBound t ux a - lowerBound t lx a + 1)

/-- The width of a range that is neither empty nor full fits in a u64 (R164). -/
theorem toNat_rangeWidth {t : IntTy} {lx ux : Bool} {a : Args} (hle : lowerBound t lx a ≤ upperBound t ux a)
    (hfull : ¬ FullRange t lx ux a) :
    (rangeWidth t lx ux a).toNat = (upperBound t ux a - lowerBound t lx a + 1).toNat := by
  have hmin := minVal_le_lowerBound t lx a
  have hmax := upperBound_le_maxVal t ux a
  have hwidth := t.maxVal_sub_minVal
  have hbits : (2 : Int) ^ t.bits ≤ 2 ^ 64 := pow_le_pow_right₀ (by decide) t.bits_le
  have hlt : upperBound t ux a - lowerBound t lx a + 1 < 2 ^ 64 := by
    by_contra hge
    exact hfull ⟨by omega, by omega⟩
  have hmod : (upperBound t ux a - lowerBound t lx a + 1) % ((2 ^ 64 : Nat) : Int) =
      upperBound t ux a - lowerBound t lx a + 1 := Int.emod_eq_of_lt (by omega) (mod_cast hlt)
  rw [rangeWidth, BitVec.toNat_ofInt, hmod]

theorem rangeWidth_pos {t : IntTy} {lx ux : Bool} {a : Args} (hle : lowerBound t lx a ≤ upperBound t ux a)
    (hfull : ¬ FullRange t lx ux a) : 0#64 < rangeWidth t lx ux a := by
  rw [BitVec.lt_def, toNat_rangeWidth hle hfull, BitVec.toNat_zero]
  omega

/-- The lower bound plus a result of Lemire's method lies in the range (R166). -/
theorem lowerBound_add_le {t : IntTy} {lx ux : Bool} {a : Args} {h : Word}
    (hle : lowerBound t lx a ≤ upperBound t ux a) (hfull : ¬ FullRange t lx ux a) (hh : h < rangeWidth t lx ux a) :
    lowerBound t lx a + h.toNat ≤ upperBound t ux a := by
  rw [BitVec.lt_def, toNat_rangeWidth hle hfull] at hh
  omega

/-- The register value RANGE.t delivers for a result of Lemire's method: that value modulo 2^64, within the bounds. -/
theorem extend_lowerBound_add {t : IntTy} {lx ux : Bool} {a : Args} {h : Word}
    (hle : lowerBound t lx a ≤ upperBound t ux a) (hfull : ¬ FullRange t lx ux a) (hh : h < rangeWidth t lx ux a) :
    t.extend (BitVec.ofInt t.bits (lowerBound t lx a + h.toNat)) = BitVec.ofInt 64 (lowerBound t lx a + h.toNat) := by
  have hmin := minVal_le_lowerBound t lx a
  have hmax := upperBound_le_maxVal t ux a
  have hsum := lowerBound_add_le hle hfull hh
  exact t.extend_ofInt (by omega) (by omega)

/-! ### RANGE.t as a command (R160) -/

namespace IntTy

variable (t : IntTy) (c : Nat) (lx ux : Bool)

theorem ctx_rangeInstr : (t.rangeInstr c lx ux).ctx = c := by cases t <;> rfl

theorem dst?_rangeInstr : (t.rangeInstr c lx ux).dst? = none := by cases t <;> rfl

theorem operandFault_rangeInstr (p : Params) (a : Args) :
    operandFault p a (t.rangeInstr c lx ux) = emptyRangeCheck t lx ux a := by cases t <;> rfl

theorem completionOf_rangeInstr (a : Args) (s : State) :
    completionOf (t.rangeInstr c lx ux) a s = completeRange t c lx ux a s := by cases t <;> rfl

end IntTy

theorem emptyRangeCheck_of_lt {t : IntTy} {lx ux : Bool} {a : Args} (h : upperBound t ux a < lowerBound t lx a) :
    emptyRangeCheck t lx ux a = some .emptyRange :=
  if_pos ((rangeBounds_eq_none_iff t lx ux a).2 h)

theorem emptyRangeCheck_of_le {t : IntTy} {lx ux : Bool} {a : Args} (h : lowerBound t lx a ≤ upperBound t ux a) :
    emptyRangeCheck t lx ux a = none :=
  if_neg fun hnone => Int.not_lt.2 h ((rangeBounds_eq_none_iff t lx ux a).1 hnone)

theorem completeRange_of_full {t : IntTy} {lx ux : Bool} {a : Args} (c : Nat) (s : State)
    (hle : lowerBound t lx a ≤ upperBound t ux a) (hfull : FullRange t lx ux a) :
    completeRange t c lx ux a s = some (completeDraw c (fun x => t.extend (t.topBits x)) s) := by
  rw [completeRange, rangeBounds_of_le hle]
  exact if_pos hfull

theorem completeRange_of_not_full {t : IntTy} {lx ux : Bool} {a : Args} (c : Nat) (s : State)
    (hle : lowerBound t lx a ≤ upperBound t ux a) (hfull : ¬ FullRange t lx ux a) :
    completeRange t c lx ux a s = (lemire draw loopFuel (rangeWidth t lx ux a) (s.words c)).map fun r =>
      finish (t.extend (BitVec.ofInt t.bits (lowerBound t lx a + r.1.toNat))) 0#64 r.2.2 (s.setWords c r.2.1) := by
  rw [completeRange, rangeBounds_of_le hle]
  refine (if_neg hfull).trans ?_
  rw [rangeWidth]
  cases lemire draw loopFuel (BitVec.ofInt 64 (upperBound t ux a - lowerBound t lx a + 1)) (s.words c) <;> rfl

section
variable {s : State} {t : IntTy} {c : Nat} {lx ux : Bool}

theorem badContext_rangeInstr {p : Params} (hctx : c < p.nctx) : badContext p (t.rangeInstr c lx ux) = false :=
  badContext_of_lt ((t.ctx_rangeInstr c lx ux).symm ▸ hctx) (by simp [t.dst?_rangeInstr])

theorem exec_range_of_empty (hready : s.Ready) (hdraw : s.CanDraw c)
    (h : upperBound t ux s.args < lowerBound t lx s.args) :
    exec (t.rangeInstr c lx ux) s = .next (s.faulted .emptyRange) :=
  exec_of_operandFault hready (badContext_rangeInstr hdraw.1) (fun _ => (t.ctx_rangeInstr c lx ux).symm ▸ hdraw.2)
    ((t.operandFault_rangeInstr c lx ux _ _).trans (emptyRangeCheck_of_lt h))

theorem accepts_range_of_le (hready : s.Ready) (hdraw : s.CanDraw c)
    (hle : lowerBound t lx s.args ≤ upperBound t ux s.args) : accepts (t.rangeInstr c lx ux) s = true :=
  accepts_of_ready hready (badContext_rangeInstr hdraw.1) (fun _ => (t.ctx_rangeInstr c lx ux).symm ▸ hdraw.2)
    ((t.operandFault_rangeInstr c lx ux _ _).trans (emptyRangeCheck_of_le hle))

/-- A RANGE.t whose range is not empty is accepted, and completes if its completion step has a result. -/
theorem exec_range_of_le (hready : s.Ready) (hdraw : s.CanDraw c)
    (hle : lowerBound t lx s.args ≤ upperBound t ux s.args) : exec (t.rangeInstr c lx ux) s =
      .next ((completeRange t c lx ux s.args (accept (t.rangeInstr c lx ux) s)).getD (accept (t.rangeInstr c lx ux) s)) := by
  rw [exec_eq, runCommand_accepted _ (accepts_range_of_le hready hdraw hle), t.completionOf_rangeInstr]

theorem exec_range_of_full (hready : s.Ready) (hdraw : s.CanDraw c)
    (hle : lowerBound t lx s.args ≤ upperBound t ux s.args) (hfull : FullRange t lx ux s.args) :
    exec (t.rangeInstr c lx ux) s = .next (s.completed c (wordsAfter 1 (s.words c))
      (t.extend (t.topBits (nthDraw (s.words c) 0))) 0#64 1) := by
  rw [exec_range_of_le hready hdraw hle, completeRange_of_full c _ hle hfull, Option.getD_some, completeDraw_eq,
    finish_setWords_accept hdraw.2]
  rfl

theorem exec_range_of_firstAccepted {k : Nat} (hready : s.Ready) (hdraw : s.CanDraw c)
    (hle : lowerBound t lx s.args ≤ upperBound t ux s.args) (hfull : ¬ FullRange t lx ux s.args)
    (hk : FirstAccepted (rangeWidth t lx ux s.args) (s.words c) k) :
    exec (t.rangeInstr c lx ux) s = .next (s.completed c (wordsAfter (k + 1) (s.words c))
      (BitVec.ofInt 64 (lowerBound t lx s.args +
        (hi64 (mulfull (nthDraw (s.words c) k) (rangeWidth t lx ux s.args))).toNat)) 0#64 (k + 1)) := by
  have hpos := rangeWidth_pos hle hfull
  have hwords : (accept (t.rangeInstr c lx ux) s).words c = s.words c := rfl
  rw [exec_range_of_le hready hdraw hle, completeRange_of_not_full c _ hle hfull, hwords,
    lemire_of_firstAccepted hpos hk, Option.map_some, Option.getD_some,
    extend_lowerBound_add hle hfull (hi64_mulfull_lt _ hpos), finish_setWords_accept hdraw.2]

/-- Where no draw is ever accepted the command stays in flight (R248). -/
theorem exec_range_of_all_rejected (hready : s.Ready) (hdraw : s.CanDraw c)
    (hle : lowerBound t lx s.args ≤ upperBound t ux s.args) (hfull : ¬ FullRange t lx ux s.args)
    (hall : ∀ n, Rejected (rangeWidth t lx ux s.args) (nthDraw (s.words c) n)) :
    exec (t.rangeInstr c lx ux) s = .next (s.inFlight (t.rangeInstr c lx ux)) := by
  have hwords : (accept (t.rangeInstr c lx ux) s).words c = s.words c := rfl
  rw [exec_range_of_le hready hdraw hle, completeRange_of_not_full c _ hle hfull, hwords,
    lemire_of_all_rejected (rangeWidth_pos hle hfull) hall]
  rfl

/-- What a RANGE.t with a range that is not empty can do: complete with a value in the range, or stay in flight. -/
theorem exec_range_cases (hready : s.Ready) (hdraw : s.CanDraw c)
    (hle : lowerBound t lx s.args ≤ upperBound t ux s.args) :
    (∃ (w : Words) (z : Int) (d : Nat), lowerBound t lx s.args ≤ z ∧ z ≤ upperBound t ux s.args ∧
      exec (t.rangeInstr c lx ux) s = .next (s.completed c w (BitVec.ofInt 64 z) 0#64 d)) ∨
    exec (t.rangeInstr c lx ux) s = .next (s.inFlight (t.rangeInstr c lx ux)) := by
  by_cases hfull : FullRange t lx ux s.args
  · have hx := t.value_bounds (t.topBits (nthDraw (s.words c) 0))
    have hexec := exec_range_of_full hready hdraw hle hfull
    rw [t.extend_eq_ofInt] at hexec
    exact .inl ⟨_, _, _, hfull.1.trans_le hx.1, hx.2.trans_eq hfull.2.symm, hexec⟩
  · by_cases hall : ∀ n, Rejected (rangeWidth t lx ux s.args) (nthDraw (s.words c) n)
    · exact .inr (exec_range_of_all_rejected hready hdraw hle hfull hall)
    · obtain ⟨k, hk⟩ := exists_firstAccepted hall
      exact .inl ⟨_, _, _, Int.le_add_of_nonneg_right (Int.natCast_nonneg _),
        lowerBound_add_le hle hfull (hi64_mulfull_lt _ (rangeWidth_pos hle hfull)),
        exec_range_of_firstAccepted hready hdraw hle hfull hk⟩

end

/-- Settles O42: an empty range faults at issue, and no other one leaves FAULT = 1. -/
theorem emptyRangesTrap : Obligations.EmptyRangesTrap := by
  intro s t c lx ux hready hdraw
  refine ⟨fun htrap => ?_, exec_range_of_empty hready hdraw⟩
  by_contra hle
  have hfault {u : State} (h : exec (t.rangeInstr c lx ux) s = .next u) (hu : u.fault = false) : False := by
    rw [← Host.Outcome.next.inj (htrap.symm.trans h)] at hu
    exact Bool.noConfusion hu
  rcases exec_range_cases hready hdraw (Int.not_lt.1 hle) with ⟨w, z, d, -, -, h⟩ | h
  · exact hfault h hready.1
  · exact hfault h hready.1

/-- Settles O43: the raw path is the completion step of RAND.t. -/
theorem fullRangesCompleteAsRand : Obligations.FullRangesCompleteAsRand := by
  intro s t c hready hdraw hmin hmax x
  have hfull : FullRange t false false s.args := ⟨(Int.add_zero _).trans hmin, (Int.sub_zero _).trans hmax⟩
  have hle : lowerBound t false s.args ≤ upperBound t false s.args := by
    have hbounds := t.ofReg_bounds 0#64
    rw [hfull.1, hfull.2]
    exact hbounds.1.trans hbounds.2
  have hexec := exec_range_of_full hready hdraw hle hfull
  exact ⟨hexec.trans (by rw [t.extend_topBits]), hexec.trans (exec_randInstr t hready hdraw).symm⟩

/-- Settles O44: the hypotheses on the products say that draw k is the first accepted one. -/
theorem rangesCompleteByLemire : Obligations.RangesCompleteByLemire := by
  intro s ty c lx ux k hready hdraw a b range t product hle hnotFull _ hbefore hlast
  have hfull : ¬ FullRange ty lx ux s.args := hnotFull
  have hrange : (rangeWidth ty lx ux s.args).toNat = range := toNat_rangeWidth hle hfull
  have hrejected (n : Nat) :
      Rejected (rangeWidth ty lx ux s.args) (nthDraw (s.words c) n) ↔ product n % 2 ^ 64 < t := by
    rw [rejected_iff _ (rangeWidth_pos hle hfull), hrange]
  have hfirst : FirstAccepted (rangeWidth ty lx ux s.args) (s.words c) k :=
    ⟨fun n hn => (hrejected n).2 (hbefore n hn), fun h => Nat.not_lt.2 hlast ((hrejected k).1 h)⟩
  rw [exec_range_of_firstAccepted hready hdraw hle hfull hfirst, toNat_hi64_mulfull, hrange]
  rfl

/-- Settles O45: a fault and a command in flight have DONE = 0, and every other outcome has a value in the range. -/
theorem rangeResultsLieInTheRange : Obligations.RangeResultsLieInTheRange := by
  intro s u ty c lx ux hready hdraw hu hdone
  have hnext {v : State} (hv : exec (ty.rangeInstr c lx ux) s = .next v) : u = v :=
    Host.Outcome.next.inj (hu.symm.trans hv)
  rcases Int.lt_or_le (upperBound ty ux s.args) (lowerBound ty lx s.args) with hempty | hle
  · rw [hnext (exec_range_of_empty hready hdraw hempty)] at hdone
    exact Bool.noConfusion hdone
  rcases exec_range_cases hready hdraw hle with ⟨w, z, d, hlow, hup, h⟩ | h
  · have hres : u.res0 = BitVec.ofInt 64 z := congrArg State.res0 (hnext h)
    have hvalue : ty.ofReg (BitVec.ofInt 64 z) = z :=
      ty.ofReg_ofInt ((minVal_le_lowerBound ..).trans hlow) (hup.trans (upperBound_le_maxVal ..))
    rw [hres, hvalue]
    exact ⟨hlow, hup, rfl⟩
  · rw [hnext h] at hdone
    exact Bool.noConfusion hdone

end Sys2Proof.Machine

/-! # Float arithmetic: patterns, one rounding and the operations (spec/44_float_interval.md R180) -/

namespace Sys2Proof.Machine

namespace FloatFmt

/-- What the proofs use of a format. -/
structure Interchange (f : FloatFmt) : Prop where
  /-- There is a fraction bit, so that infinity and the sign weight are even. -/
  fracBits_pos : 0 < f.fracBits
  /-- A draw has the fraction bits of a unit float. -/
  fracBits_le : f.fracBits ≤ 64
  /-- Unit floats are normal. -/
  fracBits_lt_bias : f.fracBits < f.bias

theorem interchange_of_format {f : FloatFmt} (h : f = binary32 ∨ f = binary64) : f.Interchange := by
  rcases h with rfl | rfl <;> exact ⟨by decide, by decide, by decide⟩

section

variable (f : FloatFmt)

/-! ### The values of the patterns -/

theorem units_subnormal {m : Nat} (h : m < 2 ^ f.fracBits) : f.units m = m := by
  rw [units, if_pos (Nat.div_eq_of_lt h), Nat.mod_eq_of_lt h]

/-- `q` counts the binades above the lowest one, and `m` is the significand with its hidden bit. Carrying out of the significand
is allowed. -/
theorem units_scaled {q m : Nat} (hm : m ≤ 2 * 2 ^ f.fracBits) (hq : q = 0 ∨ 2 ^ f.fracBits ≤ m) :
    f.units (q * 2 ^ f.fracBits + m) = m * 2 ^ q := by
  have hpow : 0 < 2 ^ f.fracBits := Nat.two_pow_pos _
  rcases Nat.lt_or_ge m (2 ^ f.fracBits) with hsub | hnormal
  · obtain rfl : q = 0 := by omega
    rw [Nat.zero_mul, Nat.zero_add, f.units_subnormal hsub, Nat.pow_zero, Nat.mul_one]
  rcases Nat.lt_or_eq_of_le hm with hlt | rfl
  · have hsplit : q * 2 ^ f.fracBits + m = (q + 1) * 2 ^ f.fracBits + (m - 2 ^ f.fracBits) := by
      rw [Nat.succ_mul]
      omega
    rw [hsplit, f.units_normal q.succ_pos (by omega), Nat.add_sub_cancel' hnormal, Nat.succ_sub_one]
  · have hcarry : q * 2 ^ f.fracBits + 2 * 2 ^ f.fracBits = (q + 2) * 2 ^ f.fracBits + 0 := by ring
    rw [hcarry, f.units_normal (by omega) hpow, Nat.add_zero, Nat.add_sub_assoc (by decide), pow_succ]
    ring

/-- Every pattern and its successor have the values of two consecutive significands of one binade. -/
theorem exists_significand (p : Nat) : ∃ q m, f.units p = m * 2 ^ q ∧ f.units (p + 1) = (m + 1) * 2 ^ q ∧
    (q = 0 ∨ 2 ^ f.fracBits ≤ m) := by
  have hdiv := Nat.div_add_mod' p (2 ^ f.fracBits)
  have hmod : p % 2 ^ f.fracBits < 2 ^ f.fracBits := Nat.mod_lt _ (Nat.two_pow_pos _)
  obtain ⟨q, m, hp, hlt, hq⟩ : ∃ q m, p = q * 2 ^ f.fracBits + m ∧ m < 2 * 2 ^ f.fracBits ∧
      (q = 0 ∨ 2 ^ f.fracBits ≤ m) := by
    cases he : p / 2 ^ f.fracBits with
    | zero => exact ⟨0, p, by omega, by rw [he] at hdiv; omega, .inl rfl⟩
    | succ q =>
      rw [he, Nat.succ_mul] at hdiv
      exact ⟨q, 2 ^ f.fracBits + p % 2 ^ f.fracBits, by omega, by omega, .inr (Nat.le_add_right _ _)⟩
  refine ⟨q, m, ?_, ?_, hq⟩
  · rw [hp, f.units_scaled hlt.le hq]
  · rw [hp, Nat.add_assoc, f.units_scaled hlt (hq.imp_right (Nat.le_succ_of_le ·))]

theorem units_strictMono : StrictMono f.units := strictMono_nat_of_lt_succ fun p => by
  obtain ⟨q, m, hp, hsucc, -⟩ := f.exists_significand p
  rw [hp, hsucc]
  exact Nat.mul_lt_mul_of_pos_right m.lt_succ_self (Nat.two_pow_pos q)

theorem units_mul_le {m n : Nat} (h : m ≤ n) (k : Nat) : f.units m * 2 ^ k ≤ f.units n * 2 ^ k :=
  Nat.mul_le_mul_right _ (f.units_strictMono.monotone h)

theorem units_mul_lt_succ (m k : Nat) : f.units m * 2 ^ k < f.units (m + 1) * 2 ^ k :=
  Nat.mul_lt_mul_of_pos_right (f.units_strictMono m.lt_succ_self) (Nat.two_pow_pos k)

theorem units_eq_zero_iff {m : Nat} : f.units m = 0 ↔ m = 0 := by
  rw [← f.units_zero, f.units_strictMono.injective.eq_iff, f.units_zero]

/-! ### One rounding -/

/-- The quotient that `roundUnits` forms is a significand of the binade it picks. -/
theorem log2_significand {num : Nat} (k : Nat) (hnum : num ≠ 0) :
    let q := Nat.log2 num - (k + f.fracBits)
    num / 2 ^ (k + q) < 2 * 2 ^ f.fracBits ∧ (q = 0 ∨ 2 ^ f.fracBits ≤ num / 2 ^ (k + q)) := by
  intro q
  have hpow : 2 * 2 ^ f.fracBits * 2 ^ (k + q) = 2 ^ (f.fracBits + 1 + (k + q)) := by ring
  refine ⟨?_, or_iff_not_imp_left.2 fun hq => ?_⟩
  · rw [Nat.div_lt_iff_lt_mul (Nat.two_pow_pos _), hpow]
    exact Nat.lt_log2_self.trans_le (Nat.pow_le_pow_right (by decide) (by omega))
  · rw [Nat.le_div_iff_mul_le (Nat.two_pow_pos _), ← Nat.pow_add]
    exact (Nat.pow_le_pow_right (by decide) (by omega)).trans (Nat.log2_self_le hnum)

variable {f}

/-- `t` is the greatest pattern whose value is at most `num / 2^k`, and the midpoint of the values of `t` and its successor
decides. -/
theorem roundUnits_eq (hfrac : 0 < f.fracBits) (num k : Nat) :
    ∃ t, f.units t * 2 ^ k ≤ num ∧ num < f.units (t + 1) * 2 ^ k ∧ f.roundUnits num k = min (t +
      if (f.units t + f.units (t + 1)) * 2 ^ k < 2 * num ∨ ((f.units t + f.units (t + 1)) * 2 ^ k = 2 * num ∧ t % 2 = 1)
      then 1 else 0) f.infBits := by
  rcases Nat.eq_zero_or_pos num with rfl | hpos
  · have hone : 0 < f.units 1 := Nat.pos_of_ne_zero (f.units_eq_zero_iff.not.2 Nat.one_ne_zero)
    exact ⟨0, by simp [units_zero], Nat.mul_pos hone (Nat.two_pow_pos k), by simp [roundUnits]⟩
  rw [roundUnits, if_neg hpos.ne']
  generalize hq : Nat.log2 num - (k + f.fracBits) = q
  obtain ⟨hlt, hbinade⟩ := f.log2_significand k hpos.ne'
  rw [hq] at hlt hbinade
  have hdiv := Nat.div_add_mod num (2 ^ (k + q))
  have hmod : num % 2 ^ (k + q) < 2 ^ (k + q) := Nat.mod_lt _ (Nat.two_pow_pos _)
  have hparity : 2 ^ f.fracBits % 2 = 0 := Nat.two_pow_mod_two_eq_zero.2 hfrac
  dsimp only
  generalize num / 2 ^ (k + q) = m at *
  generalize num % 2 ^ (k + q) = r at *
  have hfloor : f.units (q * 2 ^ f.fracBits + m) * 2 ^ k = 2 ^ (k + q) * m := by
    rw [f.units_scaled hlt.le hbinade]
    ring
  have hceil : f.units (q * 2 ^ f.fracBits + m + 1) * 2 ^ k = 2 ^ (k + q) * m + 2 ^ (k + q) := by
    rw [Nat.add_assoc, f.units_scaled hlt (hbinade.imp_right (Nat.le_succ_of_le ·)), Nat.succ_eq_add_one]
    ring
  have hodd : (q * 2 ^ f.fracBits + m) % 2 = m % 2 := by simp [Nat.add_mod, Nat.mul_mod, hparity]
  refine ⟨q * 2 ^ f.fracBits + m, by omega, by omega, ?_⟩
  rw [Nat.add_mul, hfloor, hceil, hodd]
  congr 2
  exact if_congr (by omega) rfl rfl

theorem roundUnits_le_infBits (hfrac : 0 < f.fracBits) (num k : Nat) : f.roundUnits num k ≤ f.infBits := by
  obtain ⟨t, -, -, h⟩ := roundUnits_eq hfrac num k
  exact h ▸ min_le_right _ _

/-- A rounding is at most the finite pattern `p` exactly up to the midpoint above `p`, which goes to `p` if that is even. -/
theorem roundUnits_le_iff (hfrac : 0 < f.fracBits) (num k : Nat) {p : Nat} (hp : p < f.infBits) :
    f.roundUnits num k ≤ p ↔ 2 * num < (f.units p + f.units (p + 1)) * 2 ^ k ∨
      (2 * num = (f.units p + f.units (p + 1)) * 2 ^ k ∧ p % 2 = 0) := by
  obtain ⟨t, hfloor, hceil, hround⟩ := roundUnits_eq hfrac num k
  rw [hround]
  simp only [Nat.add_mul]
  rcases Nat.lt_trichotomy p t with h | rfl | h
  · have hle := f.units_mul_le (show p + 1 ≤ t from h) k
    have hsucc := f.units_mul_lt_succ p k
    split <;> omega
  · split <;> omega
  · have hle := f.units_mul_le (show t + 1 ≤ p from h) k
    have hsucc := f.units_mul_lt_succ p k
    split <;> omega

theorem infBits_even (hfrac : 0 < f.fracBits) : f.infBits % 2 = 0 := by
  rw [infBits, Nat.mul_mod, Nat.two_pow_mod_two_eq_zero.2 hfrac, Nat.mul_zero, Nat.zero_mod]

theorem infBits_pos (hf : f.Interchange) : 0 < f.infBits := by
  have hbias : 0 < f.bias := (Nat.zero_le _).trans_lt hf.fracBits_lt_bias
  have hle : 2 ^ (f.expBits - 1) ≤ 2 ^ f.expBits := Nat.pow_le_pow_right (by decide) (Nat.sub_le _ _)
  rw [bias] at hbias
  exact Nat.mul_pos (by omega) (Nat.two_pow_pos _)

/-- Infinity results exactly from the midpoint above the greatest finite value on: that value's pattern is odd. -/
theorem roundUnits_eq_infBits_iff (hf : f.Interchange) (num k : Nat) :
    f.roundUnits num k = f.infBits ↔ (f.units (f.infBits - 1) + f.units f.infBits) * 2 ^ k ≤ 2 * num := by
  have hpos := infBits_pos hf
  have heven := infBits_even hf.fracBits_pos
  have hle := roundUnits_le_infBits hf.fracBits_pos num k
  have hiff := roundUnits_le_iff hf.fracBits_pos num k (Nat.sub_lt hpos Nat.one_pos)
  rw [Nat.sub_add_cancel hpos] at hiff
  omega

/-- The distances to a finite rounding `r` and to another pattern `p`, as the midpoint between their values decides them. -/
theorem roundUnits_nearest (hfrac : 0 < f.fracBits) {num k r : Nat} (hround : f.roundUnits num k = r) (hr : r < f.infBits)
    (p : Nat) :
    ((f.units r * 2 ^ k : Nat) - (num : Int)).natAbs ≤ ((f.units p * 2 ^ k : Nat) - (num : Int)).natAbs ∧
      (((f.units p * 2 ^ k : Nat) - (num : Int)).natAbs = ((f.units r * 2 ^ k : Nat) - (num : Int)).natAbs → p ≠ r →
        r % 2 = 0) := by
  rcases Nat.lt_trichotomy p r with h | rfl | h
  · obtain ⟨r, rfl⟩ := Nat.exists_eq_add_one_of_ne_zero (Nat.ne_zero_of_lt h)
    have hmid := roundUnits_le_iff hfrac num k (p := r) (by omega)
    rw [hround, Nat.add_mul] at hmid
    have hle := f.units_mul_le (show p ≤ r by omega) k
    have hsucc := f.units_mul_lt_succ r k
    omega
  · exact ⟨le_rfl, fun _ hne => absurd rfl hne⟩
  · have hmid := roundUnits_le_iff hfrac num k hr
    rw [hround, Nat.add_mul] at hmid
    have hle := f.units_mul_le (show r + 1 ≤ p from h) k
    have hsucc := f.units_mul_lt_succ r k
    omega

end

end FloatFmt

/-- Settles O49: the midpoints between consecutive patterns decide. -/
theorem roundingIsToNearestTiesToEven : Obligations.RoundingIsToNearestTiesToEven := by
  intro f num k hformat
  have hf := FloatFmt.interchange_of_format hformat
  exact ⟨FloatFmt.roundUnits_le_infBits hf.fracBits_pos num k,
    fun hr p _ => FloatFmt.roundUnits_nearest hf.fracBits_pos rfl hr p, FloatFmt.roundUnits_eq_infBits_iff hf num k⟩

namespace FloatFmt

section

variable {f : FloatFmt}

/-! ### Sign and magnitude -/

theorem signWeight_eq (f : FloatFmt) : f.signWeight = f.infBits + 2 ^ f.fracBits := by
  rw [infBits, ← Nat.succ_mul, Nat.succ_eq_add_one, Nat.sub_add_cancel Nat.one_le_two_pow, signWeight, Nat.pow_add,
    Nat.mul_comm]

theorem infBits_lt_signWeight (f : FloatFmt) : f.infBits < f.signWeight := by
  rw [signWeight_eq]
  exact Nat.lt_add_of_pos_right (Nat.two_pow_pos _)

theorem signWeight_pos (f : FloatFmt) : 0 < f.signWeight := Nat.two_pow_pos _

theorem signWeight_even (hfrac : 0 < f.fracBits) : f.signWeight % 2 = 0 := by
  rw [signWeight, Nat.two_pow_mod_two_eq_zero]
  omega

@[simp] theorem magnitude_withSign (neg : Bool) {m : Nat} (hm : m < f.signWeight) : f.magnitude (f.withSign neg m) = m := by
  cases neg <;> simp [withSign, magnitude, Nat.mod_eq_of_lt hm]

@[simp] theorem isNeg_withSign (neg : Bool) {m : Nat} (hm : m < f.signWeight) : f.isNeg (f.withSign neg m) = neg := by
  cases neg <;> simp [withSign, isNeg, Nat.div_eq_of_lt hm, Nat.add_div_left _ f.signWeight_pos]

theorem magnitude_of_lt {b : Nat} (h : b < f.signWeight) : f.magnitude b = b := Nat.mod_eq_of_lt h

theorem isNeg_of_lt {b : Nat} (h : b < f.signWeight) : f.isNeg b = false := isNeg_withSign false h

theorem withSign_lt (neg : Bool) {m : Nat} (hm : m < f.signWeight) : f.withSign neg m < 2 * f.signWeight := by
  cases neg with
  | false => exact hm.trans_le (Nat.le_mul_of_pos_left _ (by decide))
  | true => exact (Nat.add_lt_add_left hm _).trans_eq (Nat.two_mul _).symm

theorem withSign_mod_two (hfrac : 0 < f.fracBits) (neg : Bool) (m : Nat) : f.withSign neg m % 2 = m % 2 := by
  cases neg with
  | false => rfl
  | true => rw [withSign, if_pos rfl, Nat.add_mod, signWeight_even hfrac, Nat.zero_add, Nat.mod_mod]

theorem magnitude_lt (f : FloatFmt) (b : Nat) : f.magnitude b < f.signWeight := Nat.mod_lt _ f.signWeight_pos

/-- A pattern is its sign and its magnitude. -/
theorem withSign_isNeg_magnitude {b : Nat} (hb : b < 2 * f.signWeight) : f.withSign (f.isNeg b) (f.magnitude b) = b := by
  have hdiv := Nat.div_add_mod b f.signWeight
  have hquot : b / f.signWeight < 2 := (Nat.div_lt_iff_lt_mul f.signWeight_pos).2 hb
  rw [withSign, isNeg, magnitude]
  rcases Nat.le_one_iff_eq_zero_or_eq_one.1 (Nat.le_of_lt_succ hquot) with h | h
  · rw [h, Nat.mul_zero, Nat.zero_add] at hdiv
    rw [h]
    exact hdiv
  · rw [h, Nat.mul_one] at hdiv
    rw [h]
    exact hdiv

@[simp] theorem magnitude_neg (b : Nat) : f.magnitude (f.neg b) = f.magnitude b := magnitude_withSign _ (f.magnitude_lt b)

@[simp] theorem isNeg_neg (b : Nat) : f.isNeg (f.neg b) = !f.isNeg b := isNeg_withSign _ (f.magnitude_lt b)

@[simp] theorem isNaN_neg (b : Nat) : f.isNaN (f.neg b) = f.isNaN b := by simp [isNaN]

@[simp] theorem isInf_neg (b : Nat) : f.isInf (f.neg b) = f.isInf b := by simp [isInf]

@[simp] theorem isFinite_neg (b : Nat) : f.isFinite (f.neg b) = f.isFinite b := by simp [isFinite]

theorem signedUnits_eq (b : Nat) :
    f.signedUnits b = if f.isNeg b then -(f.units (f.magnitude b) : Int) else f.units (f.magnitude b) := rfl

@[simp] theorem signedUnits_neg (b : Nat) : f.signedUnits (f.neg b) = -f.signedUnits b := by
  rw [signedUnits_eq, signedUnits_eq, isNeg_neg, magnitude_neg]
  cases f.isNeg b <;> simp

theorem signedUnits_withSign (neg : Bool) {m : Nat} (hm : m < f.signWeight) :
    f.signedUnits (f.withSign neg m) = if neg then -(f.units m : Int) else f.units m := by
  rw [signedUnits_eq, isNeg_withSign neg hm, magnitude_withSign neg hm]

theorem natAbs_signedUnits (b : Nat) : (f.signedUnits b).natAbs = f.units (f.magnitude b) := by
  rw [signedUnits_eq]
  split <;> simp

theorem signedUnits_eq_zero_iff (b : Nat) : f.signedUnits b = 0 ↔ f.magnitude b = 0 := by
  rw [← Int.natAbs_eq_zero, natAbs_signedUnits, units_eq_zero_iff]

/-! ### Finite patterns, infinities and NaNs -/

theorem isFinite_iff {b : Nat} : f.isFinite b = true ↔ f.magnitude b < f.infBits := decide_eq_true_iff

theorem isInf_iff {b : Nat} : f.isInf b = true ↔ f.magnitude b = f.infBits := decide_eq_true_iff

theorem isNaN_iff {b : Nat} : f.isNaN b = true ↔ f.infBits < f.magnitude b := decide_eq_true_iff

theorem isNaN_of_isFinite {b : Nat} (h : f.isFinite b = true) : f.isNaN b = false :=
  decide_eq_false (Nat.not_lt.2 (isFinite_iff.1 h).le)

theorem isInf_of_isFinite {b : Nat} (h : f.isFinite b = true) : f.isInf b = false :=
  decide_eq_false (isFinite_iff.1 h).ne

theorem isNaN_of_isInf {b : Nat} (h : f.isInf b = true) : f.isNaN b = false :=
  decide_eq_false (Nat.not_lt.2 (isInf_iff.1 h).le)

theorem nanBits_lt_signWeight (hfrac : 0 < f.fracBits) : f.nanBits < f.signWeight := by
  rw [nanBits, signWeight_eq]
  exact Nat.add_lt_add_left (Nat.pow_lt_pow_right (by decide) (Nat.sub_lt hfrac Nat.one_pos)) _

theorem isNaN_nanBits (hfrac : 0 < f.fracBits) : f.isNaN f.nanBits = true := by
  rw [isNaN_iff, magnitude_of_lt (nanBits_lt_signWeight hfrac), nanBits]
  exact Nat.lt_add_of_pos_right (Nat.two_pow_pos _)

theorem isFinite_withSign (neg : Bool) {m : Nat} (hm : m < f.infBits) : f.isFinite (f.withSign neg m) = true :=
  isFinite_iff.2 ((magnitude_withSign neg (hm.trans f.infBits_lt_signWeight)).symm ▸ hm)

theorem isFinite_of_lt {b : Nat} (h : b < f.infBits) : f.isFinite b = true := isFinite_withSign false h

/-! ### Rounding with a sign -/

theorem roundUnits_zero (k : Nat) : f.roundUnits 0 k = 0 := if_pos rfl

theorem roundUnits_lt_signWeight (hfrac : 0 < f.fracBits) (num k : Nat) : f.roundUnits num k < f.signWeight :=
  (roundUnits_le_infBits hfrac num k).trans_lt f.infBits_lt_signWeight

theorem error_of_sign_eq {x : Int} {p : Nat} (h : x ≠ 0 → f.isNeg p = decide (x < 0)) (k : Nat) :
    f.error x k p = ((f.units (f.magnitude p) * 2 ^ k : Nat) - (x.natAbs : Int)).natAbs := by
  have hmul : (f.units (f.magnitude p) : Int) * 2 ^ k = (f.units (f.magnitude p) * 2 ^ k : Nat) := by push_cast; rfl
  rw [error, signedUnits_eq]
  cases hneg : f.isNeg p with
  | false =>
    have hsign : x ≠ 0 → ¬ x < 0 := by simpa [hneg] using h
    rw [if_neg Bool.false_ne_true, hmul]
    omega
  | true =>
    have hsign : x ≠ 0 → x < 0 := by simpa [hneg] using h
    rw [if_pos rfl, Int.neg_mul, hmul]
    omega

theorem error_of_sign_ne {x : Int} {p : Nat} (h : f.isNeg p ≠ decide (x < 0)) (k : Nat) :
    f.error x k p = f.units (f.magnitude p) * 2 ^ k + x.natAbs := by
  have hmul : (f.units (f.magnitude p) : Int) * 2 ^ k = (f.units (f.magnitude p) * 2 ^ k : Nat) := by push_cast; rfl
  rw [error, signedUnits_eq]
  cases hneg : f.isNeg p with
  | false =>
    have hsign : x < 0 := by simpa [hneg] using h
    rw [if_neg Bool.false_ne_true, hmul]
    omega
  | true =>
    have hsign : ¬ x < 0 := by simpa [hneg] using h
    rw [if_pos rfl, Int.neg_mul, hmul]
    omega

/-- `roundUnits_nearest` for patterns with a sign: one of the other sign is at least as far away as 0 is. -/
theorem roundUnits_nearest_signed (hfrac : 0 < f.fracBits) {x : Int} {k m : Nat} {neg : Bool}
    (hround : f.roundUnits x.natAbs k = m) (hm : m < f.infBits) (hneg : x ≠ 0 → neg = decide (x < 0)) (p : Nat) :
    f.error x k (f.withSign neg m) ≤ f.error x k p ∧
      (f.error x k p = f.error x k (f.withSign neg m) → f.signedUnits p ≠ f.signedUnits (f.withSign neg m) →
        m % 2 = 0) := by
  have hlt := hm.trans f.infBits_lt_signWeight
  have hmag := magnitude_withSign neg hlt
  have hsign := isNeg_withSign neg hlt
  have herror := error_of_sign_eq (p := f.withSign neg m) (hsign.symm ▸ hneg) k
  rw [hmag] at herror
  rw [herror]
  by_cases hp : x ≠ 0 → f.isNeg p = decide (x < 0)
  · obtain ⟨hle, htie⟩ := roundUnits_nearest hfrac hround hm (f.magnitude p)
    rw [error_of_sign_eq hp]
    refine ⟨hle, fun heq hne => ?_⟩
    by_cases hx : x = 0
    · rw [← hround, hx, Int.natAbs_zero, roundUnits_zero]
    · refine htie heq fun hsame => hne ?_
      rw [signedUnits_eq, signedUnits_withSign neg hlt, hp hx, hneg hx, hsame]
  · obtain ⟨hle, htie⟩ := roundUnits_nearest hfrac hround hm 0
    rw [error_of_sign_ne fun h => hp fun _ => h]
    simp only [units_zero, Nat.zero_mul] at hle htie
    exact ⟨by omega, fun heq _ => by omega⟩

/-- The rounded magnitude with the sign of the exact value. -/
theorem isRounding_withSign (hf : f.Interchange) (x : Int) (k : Nat) {neg : Bool} (hneg : x ≠ 0 → neg = decide (x < 0)) :
    f.IsRounding x k (f.withSign neg (f.roundUnits x.natAbs k)) := by
  have hfrac := hf.fracBits_pos
  have hlt := roundUnits_lt_signWeight hfrac x.natAbs k
  have hmag := magnitude_withSign neg hlt
  have hnearest (hr : f.isFinite (f.withSign neg (f.roundUnits x.natAbs k)) = true) :=
    roundUnits_nearest_signed hfrac rfl (hmag ▸ isFinite_iff.1 hr) hneg
  exact
    { pattern := withSign_lt neg hlt
      notNaN := decide_eq_false (Nat.not_lt.2 (hmag.trans_le (roundUnits_le_infBits hfrac _ k)))
      sign := fun hx => (isNeg_withSign neg hlt).trans (hneg hx)
      overflow := by rw [isInf_iff, hmag, roundUnits_eq_infBits_iff hf]
      nearest := fun hr p _ => (hnearest hr p).1
      tiesToEven := fun hr p _ heq hne => (withSign_mod_two hfrac neg _).trans ((hnearest hr p).2 heq hne) }

/-! ### The operations on finite operands -/

theorem add_of_isFinite {a b : Nat} (ha : f.isFinite a = true) (hb : f.isFinite b = true) :
    f.add a b = f.withSign
      (if f.signedUnits a + f.signedUnits b = 0 then f.isNeg a && f.isNeg b
        else decide (f.signedUnits a + f.signedUnits b < 0))
      (f.roundUnits (f.signedUnits a + f.signedUnits b).natAbs 0) := by
  simp only [add, isNaN_of_isFinite ha, isNaN_of_isFinite hb, isInf_of_isFinite ha, isInf_of_isFinite hb, Bool.or_self,
    Bool.false_eq_true, if_false]
  split
  · next hsum => rw [hsum, Int.natAbs_zero, roundUnits_zero]
  · rfl

theorem mul_of_isFinite {a b : Nat} (ha : f.isFinite a = true) (hb : f.isFinite b = true) :
    f.mul a b = f.withSign (f.isNeg a != f.isNeg b)
      (f.roundUnits (f.signedUnits a * f.signedUnits b).natAbs (f.bias + f.fracBits - 1)) := by
  rw [Int.natAbs_mul, natAbs_signedUnits, natAbs_signedUnits]
  simp [mul, isNaN_of_isFinite ha, isNaN_of_isFinite hb, isInf_of_isFinite ha, isInf_of_isFinite hb]

theorem isRounding_add (hf : f.Interchange) {a b : Nat} (ha : f.isFinite a = true) (hb : f.isFinite b = true) :
    f.IsRounding (f.signedUnits a + f.signedUnits b) 0 (f.add a b) := by
  rw [add_of_isFinite ha hb]
  exact isRounding_withSign hf _ 0 fun hsum => if_neg hsum

theorem isNeg_add_of_sum_zero (hf : f.Interchange) {a b : Nat} (ha : f.isFinite a = true) (hb : f.isFinite b = true)
    (hsum : f.signedUnits a + f.signedUnits b = 0) : f.isNeg (f.add a b) = (f.isNeg a && f.isNeg b) := by
  rw [add_of_isFinite ha hb, isNeg_withSign _ (roundUnits_lt_signWeight hf.fracBits_pos _ 0), if_pos hsum]

theorem isRounding_sub (hf : f.Interchange) {a b : Nat} (ha : f.isFinite a = true) (hb : f.isFinite b = true) :
    f.IsRounding (f.signedUnits a - f.signedUnits b) 0 (f.sub a b) := by
  have hround := isRounding_add hf ha (b := f.neg b) (by rwa [isFinite_neg])
  rwa [signedUnits_neg, ← Int.sub_eq_add_neg] at hround

theorem signedUnits_mul (a b : Nat) : f.signedUnits a * f.signedUnits b =
    if f.isNeg a != f.isNeg b then -((f.units (f.magnitude a) * f.units (f.magnitude b) : Nat) : Int)
    else (f.units (f.magnitude a) * f.units (f.magnitude b) : Nat) := by
  rw [signedUnits_eq, signedUnits_eq]
  cases f.isNeg a <;> cases f.isNeg b <;> simp

/-- A product that is not zero is negative when its factors' signs differ. -/
theorem isNeg_bne_eq_decide {a b : Nat} (h : f.signedUnits a * f.signedUnits b ≠ 0) :
    (f.isNeg a != f.isNeg b) = decide (f.signedUnits a * f.signedUnits b < 0) := by
  rw [signedUnits_mul] at h ⊢
  cases hsign : f.isNeg a != f.isNeg b
  · exact (decide_eq_false (Int.not_lt.2 (Int.natCast_nonneg _))).symm
  · rw [hsign, if_pos rfl] at h
    exact (decide_eq_true (by rw [if_pos rfl]; omega)).symm

theorem isRounding_mul (hf : f.Interchange) {a b : Nat} (ha : f.isFinite a = true) (hb : f.isFinite b = true) :
    f.IsRounding (f.signedUnits a * f.signedUnits b) (f.bias + f.fracBits - 1) (f.mul a b) := by
  rw [mul_of_isFinite ha hb]
  exact isRounding_withSign hf _ _ isNeg_bne_eq_decide

theorem isNeg_mul_of_isFinite (hf : f.Interchange) {a b : Nat} (ha : f.isFinite a = true) (hb : f.isFinite b = true) :
    f.isNeg (f.mul a b) = (f.isNeg a != f.isNeg b) := by
  rw [mul_of_isFinite ha hb, isNeg_withSign _ (roundUnits_lt_signWeight hf.fracBits_pos _ _)]

/-- Magnitude patterns rise with their values, so the order of two patterns is that of their values. -/
theorem orderKey_lt_iff (a b : Nat) : f.orderKey a < f.orderKey b ↔ f.signedUnits a < f.signedUnits b := by
  have hab := f.units_strictMono.lt_iff_lt (a := f.magnitude a) (b := f.magnitude b)
  have hba := f.units_strictMono.lt_iff_lt (a := f.magnitude b) (b := f.magnitude a)
  have ha := f.units_eq_zero_iff (m := f.magnitude a)
  have hb := f.units_eq_zero_iff (m := f.magnitude b)
  rw [signedUnits_eq, signedUnits_eq, orderKey, orderKey]
  split <;> split <;> omega

theorem lt_of_not_isNaN {a b : Nat} (ha : f.isNaN a = false) (hb : f.isNaN b = false) :
    f.lt a b = decide (f.signedUnits a < f.signedUnits b) := by
  simp [lt, ha, hb, orderKey_lt_iff]

/-! ### The operations on infinities and NaNs -/

theorem add_of_isInf_left {a b : Nat} (ha : f.isInf a = true) (hb : f.isFinite b = true) : f.add a b = a := by
  simp [add, isNaN_of_isInf ha, isNaN_of_isFinite hb, ha, isInf_of_isFinite hb]

theorem add_of_isInf_right {a b : Nat} (ha : f.isFinite a = true) (hb : f.isInf b = true) : f.add a b = b := by
  simp [add, isNaN_of_isInf hb, isNaN_of_isFinite ha, hb, isInf_of_isFinite ha]

theorem add_of_isInf {a b : Nat} (ha : f.isInf a = true) (hb : f.isInf b = true) :
    f.add a b = if f.isNeg a = f.isNeg b then a else f.nanBits := by
  simp [add, isNaN_of_isInf ha, isNaN_of_isInf hb, ha, hb]

protected theorem mul_comm (a b : Nat) : f.mul a b = f.mul b a := by
  simp only [mul, bne_comm (a := f.isNeg a), Bool.or_comm (f.isNaN a), Bool.or_comm (f.isInf a),
    or_comm (a := f.magnitude a = 0), Nat.mul_comm (f.units (f.magnitude a))]

/-- An infinity times a pattern that is no NaN: a NaN for a zero, else the infinity with the sign of the product. -/
theorem mul_of_isInf (hf : f.Interchange) {a b : Nat} (ha : f.isInf a = true) (hb : f.isNaN b = false) :
    f.mul a b = if f.magnitude b = 0 then f.nanBits else f.withSign (f.isNeg a != f.isNeg b) f.infBits := by
  have hmag : f.magnitude a ≠ 0 := isInf_iff.1 ha ▸ (infBits_pos hf).ne'
  simp [mul, isNaN_of_isInf ha, hb, ha, hmag]

/-- Two infinities are the same pattern when they have the same sign. -/
theorem eq_iff_of_isInf {a b : Nat} (ha : a < 2 * f.signWeight) (hb : b < 2 * f.signWeight) (hia : f.isInf a = true)
    (hib : f.isInf b = true) : a = b ↔ f.isNeg a = f.isNeg b := by
  refine ⟨congrArg f.isNeg, fun h => ?_⟩
  rw [← withSign_isNeg_magnitude ha, ← withSign_isNeg_magnitude hb, isInf_iff.1 hia, isInf_iff.1 hib, h]

/-- An infinity is below every finite pattern and below the other infinity exactly if it is negative. -/
theorem lt_of_isInf_left (hf : f.Interchange) {a b : Nat} (ha : f.isInf a = true)
    (hb : f.isFinite b = true ∨ f.isInf b = true ∧ f.isNeg a ≠ f.isNeg b) : f.lt a b = f.isNeg a := by
  have hpos := infBits_pos hf
  have hmag := isInf_iff.1 ha
  rcases hb with hfin | ⟨hinf, hsign⟩
  · have hlt := isFinite_iff.1 hfin
    simp only [lt, isNaN_of_isInf ha, isNaN_of_isFinite hfin, orderKey, hmag]
    cases f.isNeg a <;> cases f.isNeg b <;> simp <;> omega
  · simp only [lt, isNaN_of_isInf ha, isNaN_of_isInf hinf, orderKey, hmag, isInf_iff.1 hinf, Bool.eq_not_of_ne hsign]
    cases f.isNeg b <;> simp [hpos]

theorem lt_of_isInf_right {a b : Nat} (ha : f.isFinite a = true) (hb : f.isInf b = true) : f.lt a b = !f.isNeg b := by
  have hmag := isFinite_iff.1 ha
  simp only [lt, isNaN_of_isFinite ha, isNaN_of_isInf hb, orderKey, isInf_iff.1 hb]
  cases f.isNeg a <;> cases f.isNeg b <;> simp <;> omega

protected theorem lt_irrefl (a : Nat) : f.lt a a = false := by simp [lt]

theorem add_of_isNaN {a b : Nat} (h : f.isNaN a = true ∨ f.isNaN b = true) : f.add a b = f.nanBits :=
  if_pos (by simpa using h)

theorem mul_of_isNaN {a b : Nat} (h : f.isNaN a = true ∨ f.isNaN b = true) : f.mul a b = f.nanBits :=
  if_pos (by simpa using h)

theorem lt_of_isNaN {a b : Nat} (h : f.isNaN a = true ∨ f.isNaN b = true) : f.lt a b = false := by
  rcases h with h | h <;> simp [lt, h]

end

end FloatFmt

section

open FloatFmt

/-- Settles O50: a case per pair of operand kinds. -/
theorem floatOperationsRoundOnce : Obligations.FloatOperationsRoundOnce := by
  intro f k a b hformat ha hb x y
  have hf : f.Interchange := interchange_of_format (hformat.imp And.left And.left)
  have hk : k = f.bias + f.fracBits - 1 := by rcases hformat with ⟨rfl, rfl⟩ | ⟨rfl, rfl⟩ <;> rfl
  have hnan := isNaN_nanBits hf.fracBits_pos
  refine ⟨fun hfa hfb => ?_, fun hia hfb => ?_, fun hia hib => ?_, fun h => ?_⟩
  · have hfb' : f.isFinite (f.neg b) = true := by rwa [isFinite_neg]
    refine ⟨isRounding_add hf hfa hfb, isRounding_sub hf hfa hfb, hk ▸ isRounding_mul hf hfa hfb,
      isNeg_add_of_sum_zero hf hfa hfb, fun hdiff => ?_, fun _ => isNeg_mul_of_isFinite hf hfa hfb,
      lt_of_not_isNaN (isNaN_of_isFinite hfa) (isNaN_of_isFinite hfb)⟩
    rw [sub, isNeg_add_of_sum_zero hf hfa hfb' (by rw [signedUnits_neg]; exact hdiff), isNeg_neg]
  · have hfb' : f.isFinite (f.neg b) = true := by rwa [isFinite_neg]
    have hia' : f.isInf (f.neg a) = true := by rwa [isInf_neg]
    have hmul := mul_of_isInf hf hia (isNaN_of_isFinite hfb)
    refine ⟨add_of_isInf_left hia hfb, add_of_isInf_right hfb hia, add_of_isInf_left hia hfb', add_of_isInf_right hfb hia',
      fun hy => ?_, fun hy => ⟨?_, FloatFmt.mul_comm b a⟩, ?_⟩
    · rw [FloatFmt.mul_comm b a, hmul, if_pos ((signedUnits_eq_zero_iff b).1 hy)]
      exact ⟨hnan, hnan⟩
    · rw [hmul, if_neg fun h => hy ((signedUnits_eq_zero_iff b).2 h)]
    · exact ⟨lt_of_isInf_left hf hia (.inl hfb), lt_of_isInf_right hfb hia⟩
  · have hib' : f.isInf (f.neg b) = true := by rwa [isInf_neg]
    have heq := eq_iff_of_isInf ha hb hia hib
    rw [sub, add_of_isInf hia hib, add_of_isInf hia hib', mul_of_isInf hf hia (isNaN_of_isInf hib), isNeg_neg, isInf_iff.1 hib,
      if_neg (infBits_pos hf).ne']
    refine ⟨fun hab => ?_, fun hab => ?_, rfl⟩
    · rw [if_pos (heq.1 hab), if_neg (by simp [heq.1 hab]), hab]
      exact ⟨rfl, hnan, f.lt_irrefl b⟩
    · have hsign : f.isNeg a ≠ f.isNeg b := fun h => hab (heq.2 h)
      rw [if_neg hsign, if_pos (Bool.eq_not_of_ne hsign)]
      exact ⟨hnan, rfl, lt_of_isInf_left hf hia (.inr ⟨hib, hsign⟩)⟩
  · have h' : f.isNaN a = true ∨ f.isNaN (f.neg b) = true := by rwa [isNaN_neg]
    rw [add_of_isNaN h, sub, add_of_isNaN h', mul_of_isNaN h]
    exact ⟨hnan, hnan, hnan, lt_of_isNaN h⟩

end

end Sys2Proof.Machine

/-! # RANGE.F (spec/44_float_interval.md R181 to R186) -/

namespace Sys2Proof.Machine

open FloatFmt

/-! ### The interval check (R182, R183) -/

namespace FloatFmt

variable {f : FloatFmt}

/-- A pattern is finite unless its exponent field is all ones. -/
theorem isFinite_eq_false_iff (b : Nat) : f.isFinite b = false ↔ b / 2 ^ f.fracBits % 2 ^ f.expBits = 2 ^ f.expBits - 1 := by
  have hlt : b / 2 ^ f.fracBits % 2 ^ f.expBits < 2 ^ f.expBits := Nat.mod_lt _ (Nat.two_pow_pos _)
  have hexp : f.magnitude b / 2 ^ f.fracBits = b / 2 ^ f.fracBits % 2 ^ f.expBits := by
    rw [magnitude, signWeight, Nat.pow_add, Nat.mod_mul_right_div_self]
  rw [isFinite, decide_eq_false_iff_not, infBits, ← Nat.div_lt_iff_lt_mul (Nat.two_pow_pos _), hexp]
  omega

/-- The exponent field of a bound, as a field of its register. -/
theorem isFinite_ofReg_eq_false_iff (w : Word) :
    f.isFinite (f.ofReg w) = false ↔ (w.extractLsb' f.fracBits f.expBits).toNat = 2 ^ f.expBits - 1 := by
  have hreg : f.ofReg w = w.toNat % (2 ^ f.fracBits * (2 ^ f.expBits * 2)) := by
    rw [ofReg]
    congr 1
    ring
  rw [isFinite_eq_false_iff, hreg, Nat.mod_mul_right_div_self, Nat.mod_mul_right_mod, BitVec.extractLsb'_toNat,
    Nat.shiftRight_eq_div_pow]

theorem ofReg_binary32 (w : Word) : binary32.ofReg w = (w.extractLsb' 0 32).toNat := by
  rw [ofReg, BitVec.extractLsb'_toNat, Nat.shiftRight_zero]
  rfl

theorem ofReg_binary64 (w : Word) : binary64.ofReg w = w.toNat := Nat.mod_eq_of_lt w.isLt

theorem validInterval_iff {a : Args} : validInterval f a = true ↔ f.isFinite (f.ofReg a.a0) = true ∧
    f.isFinite (f.ofReg a.a1) = true ∧ f.signedUnits (f.ofReg a.a0) < f.signedUnits (f.ofReg a.a1) := by
  rw [validInterval, Bool.and_eq_true, Bool.and_eq_true, and_assoc]
  refine and_congr_right fun h0 => and_congr_right fun h1 => ?_
  rw [lt_of_not_isNaN (isNaN_of_isFinite h0) (isNaN_of_isFinite h1), decide_eq_true_iff]

theorem validInterval_eq_false_iff {a : Args} : validInterval f a = false ↔
    (a.a0.extractLsb' f.fracBits f.expBits).toNat = 2 ^ f.expBits - 1 ∨
      (a.a1.extractLsb' f.fracBits f.expBits).toNat = 2 ^ f.expBits - 1 ∨
      f.signedUnits (f.ofReg a.a1) ≤ f.signedUnits (f.ofReg a.a0) := by
  rw [← isFinite_ofReg_eq_false_iff, ← isFinite_ofReg_eq_false_iff, ← Bool.not_eq_true, validInterval_iff, not_and_or,
    not_and_or, Bool.not_eq_true, Bool.not_eq_true, Int.not_lt]

end FloatFmt

/-! ### RANGE.F as a command (R182, R186) -/

section

variable {f : FloatFmt} {i : Instr} {s : State}

theorem intervalCheck_of_valid {a : Args} (h : validInterval f a = true) : intervalCheck f a = none := if_pos h

theorem intervalCheck_of_invalid {a : Args} (h : validInterval f a = false) : intervalCheck f a = some .invalidInterval :=
  if_neg (by simp [h])

/-- A command on two float bounds in format `f` that makes one draw: what RANGE.F32 and RANGE.F64 have in common. -/
theorem exec_rangeFloat {qnan : Word} (hready : s.Ready) (hdraw : s.CanDraw i.ctx) (hdst : i.dst? = none)
    (hop : operandFault s.cfg s.args i = intervalCheck f s.args)
    (hcomplete : completionOf i s.args (accept i s) = some (completeRangeFloat f qnan i.ctx s.args (accept i s)))
    (hvalid : validInterval f s.args = true) :
    exec i s = .next (s.completed i.ctx (wordsAfter 1 (s.words i.ctx))
      (deliverFloat f qnan (scaleFloat f (f.ofReg s.args.a0) (f.ofReg s.args.a1) (nthDraw (s.words i.ctx) 0))) 0#64 1) :=
  exec_of_completeDraw hready hdraw hdst (hop.trans (intervalCheck_of_valid hvalid)) hcomplete

theorem exec_rangeFloat_eq_faulted_iff {qnan : Word} (hready : s.Ready) (hdraw : s.CanDraw i.ctx) (hdst : i.dst? = none)
    (hop : operandFault s.cfg s.args i = intervalCheck f s.args)
    (hcomplete : completionOf i s.args (accept i s) = some (completeRangeFloat f qnan i.ctx s.args (accept i s))) :
    exec i s = .next (s.faulted .invalidInterval) ↔ validInterval f s.args = false := by
  refine ⟨fun htrap => ?_, fun h => exec_of_operandFault hready (badContext_of_lt hdraw.1 (by simp [hdst])) (fun _ => hdraw.2)
    (hop.trans (intervalCheck_of_invalid h))⟩
  by_contra hvalid
  rw [exec_rangeFloat hready hdraw hdst hop hcomplete (Bool.eq_true_of_not_eq_false hvalid)] at htrap
  have hdone := congrArg State.done (Host.Outcome.next.inj htrap)
  exact Bool.noConfusion hdone

end

/-- Settles O51: the fault is that of the interval check, and the two formats have their exponent fields at 30:23 and 62:52. -/
theorem invalidIntervalsTrap : Obligations.InvalidIntervalsTrap := by
  intro s c hready hdraw
  refine ⟨?_, ?_⟩
  · rw [exec_rangeFloat_eq_faulted_iff (f := binary32) (i := .rangeF32 c) hready hdraw rfl rfl rfl, validInterval_eq_false_iff,
      ofReg_binary32, ofReg_binary32, BitVec.toNat_eq, BitVec.toNat_eq]
    rfl
  · rw [exec_rangeFloat_eq_faulted_iff (f := binary64) (i := .rangeF64 c) hready hdraw rfl rfl rfl, validInterval_eq_false_iff,
      ofReg_binary64, ofReg_binary64, BitVec.toNat_eq, BitVec.toNat_eq]
    rfl

theorem scaleFloat_eq (f : FloatFmt) (low high : Nat) (x : Word) : scaleFloat f low high x =
    f.add low (f.mul (f.sub high low) (f.unitBits (x.toNat / 2 ^ (64 - f.fracBits)))) := by
  rw [scaleFloat, unitOfDraw, unitMantissa_eq]

/-- Settles O52: the completion step of each format, with the mantissa of the draw as its quotient by 2^41 or 2^12. -/
theorem rangeFloatsComplete : Obligations.RangeFloatsComplete := by
  intro s c hready hdraw x
  refine ⟨fun hvalid => ?_, fun hvalid => ?_⟩
  · rw [exec_rangeFloat (f := binary32) (i := .rangeF32 c) hready hdraw rfl rfl rfl hvalid, scaleFloat_eq, ofReg_binary32,
      ofReg_binary32]
    rfl
  · rw [exec_rangeFloat (f := binary64) (i := .rangeF64 c) hready hdraw rfl rfl rfl hvalid, scaleFloat_eq, ofReg_binary64,
      ofReg_binary64]
    rfl

/-! ### What the result can be (R184, R185) -/

namespace FloatFmt

section

variable {f : FloatFmt}

/-- A rounding keeps to the side of a finite pattern on which the exact value lies. -/
theorem IsRounding.signedUnits_le {x : Int} {r p : Nat} (h : f.IsRounding x 0 r) (hr : f.isFinite r = true)
    (hp : f.isFinite p = true) (hle : x ≤ f.signedUnits p) : f.signedUnits r ≤ f.signedUnits p := by
  have hnear := h.nearest hr p hp
  simp only [error, pow_zero, Int.mul_one] at hnear
  omega

theorem IsRounding.le_signedUnits {x : Int} {r p : Nat} (h : f.IsRounding x 0 r) (hr : f.isFinite r = true)
    (hp : f.isFinite p = true) (hle : f.signedUnits p ≤ x) : f.signedUnits p ≤ f.signedUnits r := by
  have hnear := h.nearest hr p hp
  simp only [error, pow_zero, Int.mul_one] at hnear
  omega

theorem isFinite_of_not {b : Nat} (hnan : f.isNaN b = false) (hinf : f.isInf b = false) : f.isFinite b = true := by
  rw [isNaN, decide_eq_false_iff_not] at hnan
  rw [isInf, decide_eq_false_iff_not] at hinf
  exact isFinite_iff.2 (by omega)

/-- An exact value between two finite values does not overflow. -/
theorem IsRounding.isFinite_of_between {x : Int} {r p q : Nat} (hf : f.Interchange) (h : f.IsRounding x 0 r)
    (hp : f.isFinite p = true) (hq : f.isFinite q = true) (hle : f.signedUnits p ≤ x) (hge : x ≤ f.signedUnits q) :
    f.isFinite r = true := by
  have hpos := infBits_pos hf
  have hbound {b : Nat} (hb : f.isFinite b = true) : (f.signedUnits b).natAbs ≤ f.units (f.infBits - 1) := by
    rw [natAbs_signedUnits]
    exact f.units_strictMono.monotone (Nat.le_pred_of_lt (isFinite_iff.1 hb))
  have hgreatest : f.units (f.infBits - 1) < f.units f.infBits := f.units_strictMono (Nat.sub_lt hpos Nat.one_pos)
  have hboundp := hbound hp
  have hboundq := hbound hq
  refine isFinite_of_not h.notNaN (Bool.eq_false_of_not_eq_true fun hinf => ?_)
  have hover := h.overflow.1 hinf
  rw [pow_zero, Nat.mul_one] at hover
  omega

/-- An exact integral value above 0 does not round to 0. -/
theorem roundUnits_pos (hf : f.Interchange) {n : Nat} (hn : 0 < n) : 0 < f.roundUnits n 0 := by
  have h0 := roundUnits_le_iff hf.fracBits_pos n 0 (infBits_pos hf)
  rw [units_zero, f.units_subnormal (Nat.one_lt_two_pow hf.fracBits_pos.ne')] at h0
  omega

/-- R184 item 1: the scale is the difference `d` of the bounds, rounded; a unit float is at most 1.0 less one unit of its last
place, and so the rounded product is not above `d`. Where the scale's binade has a unit of 1 the scale is exact; in a higher
binade the product rounds to a float below the scale, and `d` lies above that one. -/
theorem units_roundUnits_scale_mul_le (hf : f.Interchange) {d s m : Nat} (hs : f.roundUnits d 0 = s) (hfin : s < f.infBits)
    (hm : m < 2 ^ f.fracBits) :
    f.units (f.roundUnits (f.units s * (m * 2 ^ (f.bias - 1))) (f.bias + f.fracBits - 1)) ≤ d := by
  have hfrac := hf.fracBits_pos
  have hbias := hf.fracBits_lt_bias
  have hpow : 2 ^ (f.bias + f.fracBits - 1) = 2 ^ f.fracBits * 2 ^ (f.bias - 1) := by
    rw [← Nat.pow_add]
    congr 1
    omega
  have hle {p : Nat} (hp : p < f.infBits) (h : 2 * (f.units s * m) < (f.units p + f.units (p + 1)) * 2 ^ f.fracBits) :
      f.units (f.roundUnits (f.units s * (m * 2 ^ (f.bias - 1))) (f.bias + f.fracBits - 1)) ≤ f.units p := by
    refine f.units_strictMono.monotone ((roundUnits_le_iff hfrac _ _ hp).2 (.inl ?_))
    rw [hpow, ← Nat.mul_assoc, ← Nat.mul_assoc, ← Nat.mul_assoc]
    exact Nat.mul_lt_mul_of_pos_right (by rwa [Nat.mul_assoc]) (Nat.two_pow_pos _)
  rcases s with _ | s
  · simp [units_zero, roundUnits_zero]
  obtain ⟨q, w, hlow, hhigh, hbinade⟩ := f.exists_significand s
  have hmid : (f.units s + f.units (s + 1)) ≤ 2 * d := by
    have h := roundUnits_le_iff hfrac d 0 (p := s) (by omega)
    rw [hs, pow_zero, Nat.mul_one] at h
    omega
  rcases hbinade with rfl | hw
  · have hexact : f.units (s + 1) ≤ d := by
      rw [pow_zero, Nat.mul_one] at hlow hhigh
      omega
    refine (hle hfin ?_).trans hexact
    have hmono : f.units (s + 1) < f.units (s + 1 + 1) := f.units_strictMono (Nat.lt_succ_self _)
    nlinarith
  · have hbelow : f.units s ≤ d := by
      have hmono : f.units s < f.units (s + 1) := f.units_strictMono s.lt_succ_self
      omega
    refine (hle (by omega) ?_).trans hbelow
    rw [hlow, hhigh]
    have hsig : 2 * ((w + 1) * m) < (w + (w + 1)) * 2 ^ f.fracBits := by nlinarith
    calc 2 * ((w + 1) * 2 ^ q * m) = 2 * ((w + 1) * m) * 2 ^ q := by ring
      _ < (w + (w + 1)) * 2 ^ f.fracBits * 2 ^ q := Nat.mul_lt_mul_of_pos_right hsig (Nat.two_pow_pos q)
      _ = (w * 2 ^ q + (w + 1) * 2 ^ q) * 2 ^ f.fracBits := by ring

theorem unitOfDraw_lt_infBits (hf : f.Interchange) (x : Word) : f.unitOfDraw x < f.infBits := by
  have hle : f.bias ≤ 2 ^ f.expBits - 1 := Nat.sub_le_sub_right (Nat.pow_le_pow_right (by decide) (Nat.sub_le _ _)) 1
  exact (unitOfDraw_spec f hf.fracBits_lt_bias hf.fracBits_le x).1.trans_le (Nat.mul_le_mul_right _ hle)

theorem units_unitOfDraw (hf : f.Interchange) (x : Word) :
    f.units (f.unitOfDraw x) = f.unitMantissa x * 2 ^ (f.bias - 1) :=
  f.units_unitBits hf.fracBits_lt_bias (f.unitMantissa_lt hf.fracBits_le x)

theorem unitOfDraw_eq_zero_iff (hf : f.Interchange) (x : Word) : f.unitOfDraw x = 0 ↔ f.unitMantissa x = 0 := by
  rw [← units_eq_zero_iff, units_unitOfDraw hf, Nat.mul_eq_zero]
  exact or_iff_left (Nat.two_pow_pos _).ne'

theorem mul_of_lt_infBits {a b : Nat} (ha : a < f.infBits) (hb : b < f.infBits) :
    f.mul a b = f.roundUnits (f.units a * f.units b) (f.bias + f.fracBits - 1) := by
  have ha' := ha.trans f.infBits_lt_signWeight
  have hb' := hb.trans f.infBits_lt_signWeight
  rw [mul_of_isFinite (isFinite_of_lt ha) (isFinite_of_lt hb), isNeg_of_lt ha', isNeg_of_lt hb', Int.natAbs_mul,
    natAbs_signedUnits, natAbs_signedUnits, magnitude_of_lt ha', magnitude_of_lt hb']
  rfl

/-- The difference of two finite floats in falling order is positive. -/
theorem sub_of_signedUnits_lt {a b : Nat} (ha : f.isFinite a = true) (hb : f.isFinite b = true)
    (h : f.signedUnits b < f.signedUnits a) : f.sub a b = f.roundUnits (f.signedUnits a - f.signedUnits b).natAbs 0 := by
  rw [sub, add_of_isFinite ha (by rwa [isFinite_neg]), signedUnits_neg, ← Int.sub_eq_add_neg, if_neg (by omega),
    decide_eq_false (by omega)]
  rfl

theorem sub_eq_infBits {a b : Nat} (hf : f.Interchange) (ha : f.isFinite a = true) (hb : f.isFinite b = true)
    (h : f.signedUnits b < f.signedUnits a) (hsub : f.isFinite (f.sub a b) = false) : f.sub a b = f.infBits := by
  rw [sub_of_signedUnits_lt ha hb h] at hsub ⊢
  refine (roundUnits_le_infBits hf.fracBits_pos _ 0).antisymm (Nat.not_lt.1 fun hlt => ?_)
  rw [isFinite_of_lt hlt] at hsub
  exact Bool.noConfusion hsub

/-- The rounded product of a finite scale and a unit float does not lead past `high`. -/
theorem scale_mul_unitOfDraw (hf : f.Interchange) {low high : Nat} (x : Word) (hlow : f.isFinite low = true)
    (hhigh : f.isFinite high = true) (hlt : f.signedUnits low < f.signedUnits high)
    (hscale : f.isFinite (f.sub high low) = true) :
    f.mul (f.sub high low) (f.unitOfDraw x) < f.infBits ∧
      f.signedUnits low + f.units (f.mul (f.sub high low) (f.unitOfDraw x)) ≤ f.signedUnits high := by
  have hsub := sub_of_signedUnits_lt hhigh hlow hlt
  rw [hsub] at hscale ⊢
  generalize hd : (f.signedUnits high - f.signedUnits low).natAbs = d at *
  have hfin : f.roundUnits d 0 < f.infBits := by
    rwa [isFinite_iff, magnitude_of_lt (roundUnits_lt_signWeight hf.fracBits_pos d 0)] at hscale
  rw [mul_of_lt_infBits hfin (unitOfDraw_lt_infBits hf x), units_unitOfDraw hf]
  have hle := units_roundUnits_scale_mul_le hf rfl hfin (f.unitMantissa_lt hf.fracBits_le x)
  refine ⟨?_, by omega⟩
  have hover := (roundUnits_eq_infBits_iff hf d 0).not.1 hfin.ne
  have hgreatest : f.units (f.infBits - 1) < f.units f.infBits := f.units_strictMono (Nat.sub_lt (infBits_pos hf) Nat.one_pos)
  rw [pow_zero, Nat.mul_one] at hover
  exact f.units_strictMono.lt_iff_lt.1 (by omega)

/-- R185: an exact zero is +0 unless both operands are negative, and no other exact sum rounds to a zero. -/
theorem add_ne_negZero (hf : f.Interchange) {a b : Nat} (ha : f.isFinite a = true) (hb : f.isFinite b = true)
    (hneg : f.isNeg b = false) : f.add a b ≠ f.signWeight := by
  intro h
  rcases eq_or_ne (f.signedUnits a + f.signedUnits b) 0 with hsum | hsum
  · have hsign := isNeg_add_of_sum_zero hf ha hb hsum
    rw [h, hneg, Bool.and_false] at hsign
    exact Bool.noConfusion (hsign.symm.trans (isNeg_withSign true f.signWeight_pos))
  · have hmag := congrArg f.magnitude h
    rw [add_of_isFinite ha hb, magnitude_withSign _ (roundUnits_lt_signWeight hf.fracBits_pos _ 0), magnitude,
      Nat.mod_self] at hmag
    exact (roundUnits_pos hf (Int.natAbs_pos.2 hsum)).ne' hmag

end

end FloatFmt

/-- R184 item 1, for the whole formula. -/
theorem scaleFloat_of_finite_scale {f : FloatFmt} (hf : f.Interchange) {low high : Nat} (x : Word)
    (hlow : f.isFinite low = true) (hhigh : f.isFinite high = true) (hlt : f.signedUnits low < f.signedUnits high)
    (hscale : f.isFinite (f.sub high low) = true) :
    f.isFinite (scaleFloat f low high x) = true ∧ f.signedUnits low ≤ f.signedUnits (scaleFloat f low high x) ∧
      f.signedUnits (scaleFloat f low high x) ≤ f.signedUnits high ∧ scaleFloat f low high x ≠ f.signWeight := by
  obtain ⟨hfin, hle⟩ := scale_mul_unitOfDraw hf x hlow hhigh hlt hscale
  have hsign := hfin.trans f.infBits_lt_signWeight
  rw [← f.signedUnits_of_lt hsign] at hle
  have hnonneg : 0 ≤ f.signedUnits (f.mul (f.sub high low) (f.unitOfDraw x)) := by
    rw [f.signedUnits_of_lt hsign]
    exact Int.natCast_nonneg _
  have hround := isRounding_add hf hlow (isFinite_of_lt hfin)
  have hresult := hround.isFinite_of_between hf hlow hhigh (by omega) hle
  exact ⟨hresult, hround.le_signedUnits hresult hlow (by omega), hround.signedUnits_le hresult hhigh hle,
    add_ne_negZero hf hlow (isFinite_of_lt hfin) (isNeg_of_lt hsign)⟩

/-- R184 item 2: a scale that overflows is +inf, which times 0 is a NaN and times any other unit float +inf. -/
theorem scaleFloat_of_infinite_scale {f : FloatFmt} (hf : f.Interchange) {low high : Nat} (x : Word)
    (hlow : f.isFinite low = true) (hscale : f.sub high low = f.infBits) :
    scaleFloat f low high x = if f.unitMantissa x = 0 then f.nanBits else f.infBits := by
  have hinf : f.isInf f.infBits = true := isInf_iff.2 (magnitude_of_lt f.infBits_lt_signWeight)
  have hunit := unitOfDraw_lt_infBits hf x
  have hsign := hunit.trans f.infBits_lt_signWeight
  rw [scaleFloat, hscale, mul_of_isInf hf hinf (isNaN_of_isFinite (isFinite_of_lt hunit)), magnitude_of_lt hsign,
    isNeg_of_lt f.infBits_lt_signWeight, isNeg_of_lt hsign, if_congr (unitOfDraw_eq_zero_iff hf x) rfl rfl]
  split
  · exact add_of_isNaN (.inr (isNaN_nanBits hf.fracBits_pos))
  · exact add_of_isInf_right hlow hinf

/-- Settles O53: the exact sum lies between the bounds, and rounding keeps it there. -/
theorem finiteScalesStayInTheClosedInterval : Obligations.FiniteScalesStayInTheClosedInterval := by
  intro f a x hformat hvalid low high hscale r
  obtain ⟨hlow, hhigh, hlt⟩ := validInterval_iff.1 hvalid
  obtain ⟨hfin, hge, hle, -⟩ := scaleFloat_of_finite_scale (interchange_of_format hformat) x hlow hhigh hlt hscale
  exact ⟨hfin, hge, hle⟩

/-- Settles O54: a scale that is not finite is the infinity to which a positive difference rounds. -/
theorem floatResultOutcomes : Obligations.FloatResultOutcomes := by
  intro f a x hformat hvalid scale r
  have hf := interchange_of_format hformat
  obtain ⟨hlow, hhigh, hlt⟩ := validInterval_iff.1 hvalid
  have hfrac := hf.fracBits_pos
  cases hscale : f.isFinite scale with
  | true =>
    obtain ⟨hfin, -, -, hne⟩ := scaleFloat_of_finite_scale hf x hlow hhigh hlt hscale
    have hneginf : f.magnitude (f.signWeight + f.infBits) = f.infBits := magnitude_withSign true f.infBits_lt_signWeight
    exact ⟨fun h => Bool.noConfusion h, fun _ => isNaN_of_isFinite hfin,
      fun h => (isFinite_iff.1 hfin).ne ((congrArg f.magnitude h).trans hneginf), hne⟩
  | false =>
    have hinf : scale = f.infBits := sub_eq_infBits hf hhigh hlow hlt hscale
    have hr : r = if f.unitMantissa x = 0 then f.nanBits else f.infBits := scaleFloat_of_infinite_scale hf x hlow hinf
    have hpos : r < f.signWeight := by
      rw [hr]
      split
      · exact nanBits_lt_signWeight hfrac
      · exact f.infBits_lt_signWeight
    refine ⟨fun _ => ⟨hinf, fun h => ?_, fun h => hr.trans (if_neg h)⟩, fun h => Bool.noConfusion h,
      (hpos.trans_le (Nat.le_add_right _ _)).ne, hpos.ne⟩
    rw [hr, if_pos h]
    exact isNaN_nanBits hfrac

end Sys2Proof.Machine

/-! # Faults: the checks of the issue step, and the fault state (spec/60_exceptions.md R200 to R207) -/

namespace Sys2Proof.Machine

/-! ### The checks on a legal command (R203, items 4 to 6) -/

theorem badContext_iff {p : Params} {i : Instr} :
    badContext p i = true ↔ p.nctx ≤ i.ctx ∨ ∃ d, i.dst? = some d ∧ p.nctx ≤ d := by
  simp only [badContext, Bool.or_eq_true, Option.any_eq_true, decide_eq_true_eq]

theorem readsContext_iff {i : Instr} : readsContext i = true ↔ i.op ∉ [0x01#8, 0x02#8, 0x03#8] := by
  cases i <;> simp [readsContext, Instr.op]

theorem readsContext_of_not_seeding {i : Instr} (h : ∀ c, i ≠ .seedU64 c ∧ i ≠ .seedBytes c ∧ i ≠ .seedEnt c) :
    readsContext i = true := by
  cases i
  case seedU64 c => exact absurd rfl (h c).1
  case seedBytes c => exact absurd rfl (h c).2.1
  case seedEnt c => exact absurd rfl (h c).2.2
  all_goals rfl

section
variable {i : Instr} {s : State}

theorem checkFault_of_badContext (h : badContext s.cfg i = true) : checkFault i s = some .badContext := if_pos h

theorem checkFault_of_unseeded (hbad : badContext s.cfg i = false) (hreads : readsContext i = true)
    (hseeded : s.seeded i.ctx = false) : checkFault i s = some .notSeeded := by
  simp [checkFault, hbad, hreads, hseeded]

theorem checkFault_of_seeded (hbad : badContext s.cfg i = false) (hseeded : readsContext i = true → s.seeded i.ctx = true) :
    checkFault i s = operandFault s.cfg s.args i := by
  unfold checkFault
  cases hreads : readsContext i with
  | false => simp [hbad]
  | true => simp [hbad, hseeded hreads]

/-! ### The issue step and the command level under each check (R202, R203) -/

theorem issueFault_of_busy (cmd : Option Instr) (h : s.busy = true) : issueFault cmd s = some .overrun := if_pos h

theorem issueFault_of_checkFault {code : FaultCode} (hready : s.Ready) (h : checkFault i s = some code) :
    issueFault (some i) s = some code := by
  simp [issueFault, hready.2, h]

theorem issue_of_fault (cmd : Option Instr) (h : s.fault = true) : issue cmd s = s := if_pos h

theorem issue_of_issueFault {cmd : Option Instr} {code : FaultCode} (hfault : s.fault = false)
    (h : issueFault cmd s = some code) : issue cmd s = s.faulted code := by
  simp [issue, hfault, h, raiseFault, State.faulted]

theorem exec_of_fault (i : Instr) (h : s.fault = true) : exec i s = .next s := by
  have hrej : accepts i s = false := by simp [accepts, h]
  rw [exec_eq, runCommand_rejected _ hrej, issue_of_fault _ h]

theorem exec_of_issueFault {code : FaultCode} (hfault : s.fault = false) (h : issueFault (some i) s = some code) :
    exec i s = .next (s.faulted code) := by
  have hrej : accepts i s = false := by simp [accepts, h]
  rw [exec_eq, runCommand_rejected _ hrej, issue_of_issueFault hfault h]

end

theorem issueWord_ok {w : CmdWord} {i : Instr} (s : State) (h : decode w = .ok i) : issueWord w s = issue (some i) s := by
  rw [issueWord, h]
  rfl

/-- Settles O8: the first failed check is the fault that `issueFault` answers. -/
theorem issueReportsTheFirstFailedCheck : Obligations.IssueReportsTheFirstFailedCheck := by
  intro w s
  refine ⟨issue_of_fault _, fun hfault hbusy => issue_of_issueFault hfault (issueFault_of_busy _ hbusy),
    fun hready hillegal => ?_, fun i hready hd => ?_⟩
  · cases hd : decode w with
    | ok i => exact absurd hd (hillegal i)
    | error e => rw [issueWord_error s hd, issue_none_of_ready hready]
  · have hraise {code : FaultCode} (h : checkFault i s = some code) : issue (some i) s = s.faulted code :=
      issue_of_issueFault hready.1 (issueFault_of_checkFault hready h)
    rw [issueWord_ok s hd]
    refine ⟨fun hbad => hraise (checkFault_of_badContext (badContext_iff.2 hbad)), fun hctx hdst => ?_⟩
    have hbad : badContext s.cfg i = false := badContext_of_lt hctx hdst
    refine ⟨fun hop hunseeded => hraise (checkFault_of_unseeded hbad (readsContext_iff.2 hop) hunseeded), fun hok => ?_⟩
    have hseeded (hreads : readsContext i = true) : s.seeded i.ctx = true :=
      hok.resolve_left (readsContext_iff.1 hreads)
    exact ⟨fun code hcode => hraise ((checkFault_of_seeded hbad hseeded).trans hcode),
      fun hpass => issue_of_accepts (accepts_of_ready hready hbad hseeded hpass)⟩

/-- Settles O9: a command that fails a check is its issue step alone. -/
theorem commandsTrapAtIssue : Obligations.CommandsTrapAtIssue := by
  intro i s
  have htrap {code : FaultCode} (hready : s.Ready) (h : checkFault i s = some code) : exec i s = .next (s.faulted code) :=
    exec_of_issueFault hready.1 (issueFault_of_checkFault hready h)
  exact ⟨exec_of_fault i, fun hfault hbusy => exec_of_issueFault hfault (issueFault_of_busy _ hbusy),
    fun hready hbad => htrap hready (checkFault_of_badContext (badContext_iff.2 hbad)),
    fun hready hctx hdst hother hunseeded => htrap hready
      (checkFault_of_unseeded (badContext_of_lt hctx hdst) (readsContext_of_not_seeding hother) hunseeded)⟩

/-! ### What goes on in the fault state (R205) -/

/-- A completion step ends the command and raises no fault (R200). -/
theorem completionOf_status {i : Instr} {a : Args} {s t : State} (h : completionOf i a s = some t) :
    t.done = true ∧ t.busy = false ∧ t.fault = s.fault ∧ t.errcode = s.errcode := by
  obtain ⟨g, r0, r1, d, m, e, rfl, -⟩ := (completionOf_completes h).shape
  exact ⟨rfl, rfl, rfl, rfl⟩

theorem Args.get_set (a : Args) {i j : Nat} (hi : i < 4) (hj : j < 4) (v : Word) :
    (a.set i v).get j = if j = i then v else a.get j := by
  interval_cases i <;> interval_cases j <;> rfl

/-- Settles O11: an access by its kind and its offset, and a command in flight by its completion step. -/
theorem faultStateIgnoresCommandsOnly : Obligations.FaultStateIgnoresCommandsOnly := by
  intro s hfault
  refine ⟨fun v => ?_, fun l t hl ht => ?_, fun off hoff halign => memRead_register (admitted_register halign) hoff s,
    fun k n hn halign hk => ?_, fun off n hn halign hreg hout => memRead_reserved (admitted_above hn halign hreg) hreg hout,
    fun i v hi => ?_, fun v hv => ?_⟩
  · rw [memWrite_admitted (by decide), writeEffect_cmd, issueWord, issue_of_fault _ hfault]
    rfl
  · obtain ⟨hdone, hbusy, hkeep, hcode⟩ := completionOf_status ht
    rw [completionTurn_inFlight hl, ht]
    exact ⟨rfl, hdone, hbusy, hkeep.trans hfault, hcode⟩
  · refine ⟨outbufRead s k n, outbufRead_lt s k n, ?_, fun j b hj hb => ?_⟩
    · rw [memRead_outbuf (admitted_outbuf hn halign) hk]
      rfl
    · rw [extractLsb'_outbufRead s k hj (le_eight_of_width hn), outbufByte_of_read hb]
  · rw [memWrite_admitted (admitted_register (by omega)), writeEffect_arg hi]
    exact ⟨rfl, (s.args.get_set hi hi v).trans (if_pos rfl), fun j hj h => (s.args.get_set hi hj v).trans (if_neg h)⟩
  · rw [memWrite_admitted (by decide), writeEffect_ctrl, if_pos hv]
    rfl

/-! ### Leaving the fault state (R206, R207) -/

theorem memRead_frame (off n : Nat) (s : State) :
    ∃ r count, memRead off n s = { s with response := r, freeCount := count } := by
  cases h : admitted off n with
  | false => exact ⟨_, _, memRead_busError h s⟩
  | true =>
    obtain ⟨d, count, hread⟩ := memRead_admitted h s
    exact ⟨_, _, hread⟩

/-- In the fault state a write that is no soft reset can change ARG and the response alone. -/
theorem memWrite_of_fault {off n : Nat} {v : Word} {s : State} (hfault : s.fault = true)
    (h : ¬ (off = 0x008 ∧ n = 8 ∧ v.getLsbD 0 = true)) :
    ∃ a r, memWrite off n v s = { s with args := a, response := r } := by
  cases hadm : admitted off n with
  | false => exact ⟨_, _, memWrite_busError hadm v s⟩
  | true =>
    obtain ⟨-, -, hwidth⟩ := (admitted_iff off n).1 hadm
    rw [memWrite_admitted hadm]
    unfold writeEffect
    split
    · rename_i hoff
      rw [if_neg fun hv => h ⟨hoff, hwidth (by omega), hv⟩]
      exact ⟨_, _, rfl⟩
    · split
      · rw [issueWord, issue_of_fault _ hfault]
        exact ⟨_, _, rfl⟩
      · split <;> exact ⟨_, _, rfl⟩

theorem commandWord_of_fault {s : State} (w : CmdWord) (h : s.fault = true) : commandWord w s = .next s := by
  cases hd : decode w with
  | ok i => rw [commandWord_ok s hd, exec_of_fault i h]
  | error e => rw [commandWord_error s hd, issue_of_fault none h]

theorem completionTurn_keepsFault (s : State) :
    (completionTurn s).fault = s.fault ∧ (completionTurn s).errcode = s.errcode := by
  rcases completionTurn_cases s with he | ⟨l, t, -, ht, he⟩ <;> rw [he]
  · exact ⟨rfl, rfl⟩
  · obtain ⟨-, -, hfault, hcode⟩ := completionOf_status ht
    exact ⟨hfault, hcode⟩

/-- In the fault state a move that is no reset is the completion turn, or touches at most ARG, the entropy input, the
response and the free-byte counter. -/
theorem move_of_fault {e : Event} {s t : State} (hfault : s.fault = true) (he : ¬ e.Resets s.cfg)
    (h : move e s = .next t) :
    t = completionTurn s ∨
      ∃ a es r count, t = { s with args := a, entropy := es, response := r, freeCount := count } := by
  cases e with
  | read addr n =>
    simp only [move, busRead] at h
    split at h
    · cases h
    · rename_i off hoff
      cases h
      obtain ⟨r, count, hread⟩ := memRead_frame off n s
      exact .inr ⟨_, _, _, _, hread⟩
  | write addr n v =>
    simp only [move, busWrite] at h
    split at h
    · cases h
    · rename_i off hoff
      cases h
      have hnoReset : ¬ (off = 0x008 ∧ n = 8 ∧ v.getLsbD 0 = true) := by
        rintro ⟨rfl, rfl, hv⟩
        exact he (.inr ⟨v, hv, by rw [windowOffset_eq_some hoff]⟩)
      obtain ⟨a, r, hwrite⟩ := memWrite_of_fault hfault hnoReset
      exact .inr ⟨_, _, _, _, hwrite⟩
  | command w =>
    rw [move, commandWord_of_fault w hfault] at h
    cases h
    exact .inr ⟨_, _, _, _, rfl⟩
  | complete => cases h; exact .inl rfl
  | entropy v => cases h; exact .inr ⟨_, _, _, _, rfl⟩
  | hardReset => exact absurd (.inl rfl) he

theorem move_keepsFault {e : Event} {s t : State} (hfault : s.fault = true) (he : ¬ e.Resets s.cfg)
    (h : move e s = .next t) : t.fault = true ∧ t.errcode = s.errcode := by
  rcases move_of_fault hfault he h with rfl | ⟨a, es, r, count, rfl⟩
  · obtain ⟨hkeep, hcode⟩ := completionTurn_keepsFault s
    exact ⟨hkeep.trans hfault, hcode⟩
  · exact ⟨hfault, rfl⟩

theorem move_of_resets {e : Event} {s : State} (he : e.Resets s.cfg) :
    ∃ r, move e s = .next (respond r (resetBlock s)) := by
  rcases he with rfl | ⟨v, hv, rfl⟩
  · exact ⟨s.response, rfl⟩
  · exact ⟨.ack, busWrite_ctrl s hv⟩

/-- Settles O12: in the fault state no move but a reset writes FAULT or ERRCODE. -/
theorem onlyAResetLeavesTheFaultState : Obligations.OnlyAResetLeavesTheFaultState := by
  refine fun s t h => ⟨fun hfault hno => ?_, fun e rest ha he => ?_⟩
  · cases ha : s.agenda with
    | nil =>
      rw [step_nil ha] at h
      cases h
      obtain ⟨hkeep, hcode⟩ := completionTurn_keepsFault s
      exact ⟨hkeep.trans hfault, hcode⟩
    | cons e rest =>
      rw [step_cons ha] at h
      exact move_keepsFault (s := { s with agenda := rest }) hfault (hno e rest ha) h
  · obtain ⟨r, hmove⟩ := move_of_resets (s := { s with agenda := rest }) he
    rw [step_cons ha, hmove] at h
    cases h
    exact ⟨rfl, rfl, resetBlock_seeded { s with agenda := rest }⟩

end Sys2Proof.Machine

/-! # Reset and overlapping accesses (spec/70_reset_and_hazards.md R230 to R245) -/

namespace Sys2Proof.Machine

/-! ### What no completion step reads (R241, R245) -/

/-- The state `s` with other ARG registers, DONE, FAULT and ERRCODE. -/
def State.withArgsAndStatus (s : State) (args : Args) (done fault : Bool) (code : FaultCode) : State :=
  { s with args := args, done := done, fault := fault, errcode := code }

section
variable (a args : Args) (done fault : Bool) (code : FaultCode) (s : State)

theorem completeRange_withArgsAndStatus (ty : IntTy) (c : Nat) (lx ux : Bool) :
    completeRange ty c lx ux a (s.withArgsAndStatus args done fault code) =
      (completeRange ty c lx ux a s).map (·.withArgsAndStatus args true fault code) := by
  have hwords : (s.withArgsAndStatus args done fault code).words c = s.words c := rfl
  unfold completeRange
  rw [hwords]
  split
  · rfl
  · split
    · rfl
    · split <;> rfl

theorem completeSeedEnt_withArgsAndStatus (c : Nat) :
    completeSeedEnt c a (s.withArgsAndStatus args done fault code) =
      (completeSeedEnt c a s).map (·.withArgsAndStatus args true fault code) := by
  have hentropy : (s.withArgsAndStatus args done fault code).entropy = s.entropy := rfl
  unfold completeSeedEnt
  rw [hentropy]
  split <;> rfl

/-- A completion step works on the latched operands: ARG, FAULT and ERRCODE pass through it, and DONE = 1 whatever it was. -/
theorem completionOf_withArgsAndStatus (i : Instr) :
    completionOf i a (s.withArgsAndStatus args done fault code) =
      (completionOf i a s).map (·.withArgsAndStatus args true fault code) := by
  cases i
  case seedEnt c => exact completeSeedEnt_withArgsAndStatus a args done fault code s c
  case rangeU8 | rangeU16 | rangeU32 | rangeU64 | rangeI8 | rangeI16 | rangeI32 | rangeI64 =>
    exact completeRange_withArgsAndStatus ..
  all_goals rfl

end

theorem completionOf_args {i : Instr} {a : Args} {s t : State} (h : completionOf i a s = some t) : t.args = s.args := by
  obtain ⟨g, r0, r1, d, m, e, rfl, -⟩ := (completionOf_completes h).shape
  rfl

/-- Settles O10: the completion step neither reads nor writes the fault. -/
theorem overrunLeavesTheCommandInFlight : Obligations.OverrunLeavesTheCommandInFlight := by
  intro s t l w hbusy hfault hl ht
  have hissue : issueWord w s = s.faulted .overrun := issue_of_issueFault hfault (issueFault_of_busy _ hbusy)
  obtain ⟨hdone, hidle, -, -⟩ := completionOf_status ht
  refine ⟨hissue, ?_, hdone, hidle, fun w' => issue_of_fault _ rfl⟩
  have hcomplete : completionOf l.cmd l.args (s.faulted .overrun) = some { t with fault := true, errcode := .overrun } := by
    change completionOf l.cmd l.args (s.withArgsAndStatus s.args false true .overrun) = _
    rw [completionOf_withArgsAndStatus, ht]
    simp [State.withArgsAndStatus, completionOf_args ht, hdone]
  rw [hissue, completionTurn_inFlight (s := s.faulted .overrun) hl, hcomplete, Option.getD_some]

/-- Settles O23: the completion step neither reads nor writes ARG. -/
theorem argWritesDoNotReachTheCommandInFlight : Obligations.ArgWritesDoNotReachTheCommandInFlight := by
  intro s i v
  let s' := s.withArgsAndStatus (s.args.set i v) s.done s.fault s.errcode
  change completionTurn s' = _
  cases hl : s.latch with
  | none =>
    rw [completionTurn_idle hl]
    exact completionTurn_idle (s := s') hl
  | some l =>
    rw [completionTurn_inFlight hl, completionTurn_inFlight (s := s') hl, completionOf_withArgsAndStatus]
    cases ht : completionOf l.cmd l.args s with
    | none => rfl
    | some t =>
      obtain ⟨hdone, -, hfault, hcode⟩ := completionOf_status ht
      rw [Option.map_some, Option.getD_some, Option.getD_some, completionOf_args ht, ← hdone, ← hfault, ← hcode]
      rfl

/-! ### What host accesses leave alone (R241, R242) -/

/-- The contexts, RES, LASTDRAWS and OUTBUF of `t` are those of `s`. -/
def KeepsResults (s t : State) : Prop :=
  t.contexts = s.contexts ∧ t.res0 = s.res0 ∧ t.res1 = s.res1 ∧ t.lastDraws = s.lastDraws ∧ t.outbuf = s.outbuf

theorem keepsResults_refl (s : State) : KeepsResults s s := ⟨rfl, rfl, rfl, rfl, rfl⟩

theorem issue_keepsResults (cmd : Option Instr) (s : State) : KeepsResults s (issue cmd s) := by
  rcases issue_cases cmd s with ⟨-, he⟩ | ⟨code, -, -, he⟩ | ⟨i, -, -, -, he⟩ <;> rw [he] <;>
    exact keepsResults_refl s

theorem memRead_keepsResults (off n : Nat) (s : State) : KeepsResults s (memRead off n s) := by
  obtain ⟨r, count, hread⟩ := memRead_frame off n s
  rw [hread]
  exact keepsResults_refl s

theorem writeEffect_keepsResults {off : Nat} {v : Word} (h : ¬ (off = 0x008 ∧ v.getLsbD 0 = true)) (s : State) :
    KeepsResults s (writeEffect off v s) := by
  unfold writeEffect
  split
  · rename_i hoff
    rw [if_neg fun hv => h ⟨hoff, hv⟩]
    exact keepsResults_refl s
  · split
    · exact issue_keepsResults _ s
    · split <;> exact keepsResults_refl s

theorem memWrite_keepsResults {off n : Nat} {v : Word} (h : ¬ (off = 0x008 ∧ n = 8 ∧ v.getLsbD 0 = true)) (s : State) :
    KeepsResults s (memWrite off n v s) := by
  cases hadm : admitted off n with
  | false =>
    rw [memWrite_busError hadm]
    exact keepsResults_refl s
  | true =>
    obtain ⟨-, -, hwidth⟩ := (admitted_iff off n).1 hadm
    rw [memWrite_admitted hadm]
    exact writeEffect_keepsResults (fun ⟨hoff, hv⟩ => h ⟨hoff, hwidth (by omega), hv⟩) s

/-- Settles O22: a read, a write and an entropy word, each by its frame. -/
theorem onlyCompletionWritesResults : Obligations.OnlyCompletionWritesResults := by
  intro s t e rest ha h hcomplete hcommand hreset
  rw [step_cons ha] at h
  cases e with
  | read addr n =>
    simp only [move, busRead] at h
    split at h
    · cases h
    · cases h
      exact memRead_keepsResults _ n { s with agenda := rest }
  | write addr n v =>
    simp only [move, busWrite] at h
    split at h
    · cases h
    · rename_i off hoff
      cases h
      refine memWrite_keepsResults ?_ { s with agenda := rest }
      rintro ⟨rfl, rfl, hv⟩
      exact hreset (.inr ⟨v, hv, by rw [windowOffset_eq_some hoff]⟩)
  | command w => exact absurd rfl (hcommand w)
  | complete => exact absurd rfl hcomplete
  | entropy v => cases h; exact keepsResults_refl s
  | hardReset => exact absurd (.inl rfl) hreset

/-! ### Reset (R230 to R232) -/

theorem seededNat_replicate_unseeded (n : Nat) : seededNat (List.replicate n GenCtx.unseeded) = 0 := by
  induction n with
  | zero => rfl
  | succ n ih => rw [List.replicate_succ, seededNat, ih]; rfl

theorem statusWord_resetBlock (s : State) : statusWord (resetBlock s) = 0#64 := by
  simp [statusWord, seededNat_replicate_unseeded, FaultCode.code]

theorem Args.get_zero (i : Nat) : Args.zero.get i = 0#64 := by
  unfold Args.get
  split_ifs <;> rfl

theorem resetBlock_resetWith (p : Params) : resetBlock (State.resetWith p) = State.resetWith p := rfl

/-- Settles O13: the state of `State.resetWith` is one that a reset leaves. -/
theorem resetLeavesTheResetValues : Obligations.ResetLeavesTheResetValues := by
  refine ⟨fun s t ht => ?_, rfl⟩
  obtain ⟨u, hcfg, rfl⟩ : ∃ u : State, u.cfg = s.cfg ∧ t = resetBlock u := by
    rcases ht with rfl | rfl
    · exact ⟨s, rfl, rfl⟩
    · exact ⟨State.resetWith s.cfg, rfl, (resetBlock_resetWith s.cfg).symm⟩
  refine ⟨resetBlock_seeded u, ?_, statusWord_resetBlock u, rfl, rfl, rfl, rfl, rfl, Args.get_zero, rfl, rfl, rfl,
    Memory.read_nil, rfl, congrArg idWord hcfg⟩
  rw [resetBlock_contexts, List.length_replicate, hcfg]

/-- An 8-byte write to CTRL with bit 0 clear has no effect but its response (R28). -/
theorem busWrite_ctrl_ignored (s : State) {v : Word} (h : v.getLsbD 0 = false) :
    busWrite (s.cfg.base + 0x008) 8 v s = .next (respond .ack s) := by
  unfold busWrite
  rw [windowOffset_base_add s.cfg (by decide)]
  show Host.Outcome.next (memWrite 0x008 8 v s) = _
  rw [memWrite_admitted (by decide), writeEffect_ctrl, h]
  rfl

/-- Settles O14: each source is one move, and a reset empties the latch. -/
theorem bothResetsActAtAnyTime : Obligations.BothResetsActAtAnyTime := fun s rest _ =>
  ⟨fun hv => busWrite_ctrl { s with agenda := rest } hv, fun hv => busWrite_ctrl_ignored { s with agenda := rest } hv, rfl,
    completionTurn_idle (resetBlock_latch s)⟩

end Sys2Proof.Machine
